-- ==== Sys2Proof/Word.lean ====
section
/-! DEFINITION. The widths of NECIR-CORE's values (00_scope R6): every register is 32 bits, every byte 8 bits, every
pulse duration an unsigned 16-bit number of microseconds. -/

namespace Sys2Proof

/-- A byte, 8 bits, unsigned unless a rule says otherwise (R6). -/
abbrev Byte := BitVec 8

/-- A register or command word, 32 bits (R6). -/
abbrev Word := BitVec 32

/-- A pulse duration in microseconds, 16 bits, unsigned (R6). -/
abbrev Duration := BitVec 16

/-- What the pulse buffer holds: FRAME_LEN = 67 durations, counted from 0 (R3, R30). -/
abbrev Pulses := Vector Duration 67

end Sys2Proof
end

