-- ==== Sys2Proof/Syntax.lean ====
section
/-! DEFINITION. The eight operations (30_encoding R72, spec/opcode_table.json), one constructor a row, with the operand
fields of R73; and the source's closed enumerations (R74). -/

namespace Sys2Proof

/-- An operation with its operand fields, as the command word carries them (R72, R73). -/
inductive Instr where
  /-- ENC_POWER; `b` is the B field, of which B[0] is P (R91). -/
  | encPower (b : Byte)
  /-- ENC_MODE; `m` is the mode code (R92). -/
  | encMode (m : Byte)
  /-- ENC_TEMP; `b` is the temperature as a signed byte (R75, R93). -/
  | encTemp (b : Byte)
  /-- ENC_FAN; `f` is the fan code (R94). -/
  | encFan (f : Byte)
  /-- ENC_PAIR; `a` the address byte, `c` the command byte (R105). -/
  | encPair (a c : Byte)
  /-- VALIDATE_WORD (R122). -/
  | validateWord
  /-- VALIDATE_PULSES (R123). -/
  | validatePulses
  /-- TRANSMIT (R142). -/
  | transmit
deriving DecidableEq, Repr

/-- The source's `mode: {Cool, Heat, Fan, Dry, Auto}` (R74). -/
inductive Mode where
  | cool | heat | fan | dry | auto
deriving DecidableEq, Repr

/-- The source's `fanSpeed: {Low, Medium, High, Auto}` (R74). -/
inductive FanSpeed where
  | low | medium | high | auto
deriving DecidableEq, Repr

end Sys2Proof
end

