-- ==== Sys2Proof/WellFormed.lean ====
section
/-! DEFINITION. Which instructions a command word can encode: the reserved-field rule of 30_encoding R71 that the syntax
does not already rule out. RSV, an unused A and the B field of the three operand-less operations have no place in the
syntax; B[7:1] of ENC_POWER has one. -/

namespace Sys2Proof

/-- `i` is encodable: ENC_POWER's B[7:1] is zero (R71); every other operand is a full byte (R73). -/
def Instr.wellFormed : Instr → Bool
  | .encPower b => b >>> 1 == 0
  | .encMode _ => true
  | .encTemp _ => true
  | .encFan _ => true
  | .encPair _ _ => true
  | .validateWord => true
  | .validatePulses => true
  | .transmit => true

end Sys2Proof
end

