-- ==== Sys2Proof/Decode.lean ====
section
/-! DEFINITION. The command word (30_encoding R70 to R73): its fields, the decoder with R71's checks in R71's order, the
little-endian byte lanes a word has on the bus (20_memory R57), and the encoder. -/

namespace Sys2Proof

/-- Why a word, or a list of bytes, is no command. Every case of a full word raises ILLEGAL_COMMAND (R71); the names only
tell which check failed first. -/
inductive DecodeError where
  /-- fewer than four bytes were given; a command is always one 32-bit word (R70) -/
  | tooShort
  /-- OP is not one of 0x01 to 0x08 (R71, R76) -/
  | reservedOpcode
  /-- RSV is not zero -/
  | reservedField
  /-- A is not zero in an operation other than ENC_PAIR -/
  | addressField
  /-- B[7:1] is not zero in ENC_POWER -/
  | powerField
  /-- B is not zero in VALIDATE_WORD, VALIDATE_PULSES or TRANSMIT -/
  | operandField
deriving DecidableEq, Repr

/-- OP, bits [31:24] (R70). -/
def opField (w : Word) : Byte := w.extractLsb' 24 8

/-- RSV, bits [23:16] (R70). -/
def rsvField (w : Word) : Byte := w.extractLsb' 16 8

/-- A, bits [15:8] (R70). -/
def aField (w : Word) : Byte := w.extractLsb' 8 8

/-- B, bits [7:0] (R70). -/
def bField (w : Word) : Byte := w.extractLsb' 0 8

/-- The opcode map of R72, for fields that R71's checks have passed. -/
def dispatchOpcode (op a b : Byte) : Except DecodeError Instr :=
  match op with
  | 0x01#8 => .ok (.encPower b)
  | 0x02#8 => .ok (.encMode b)
  | 0x03#8 => .ok (.encTemp b)
  | 0x04#8 => .ok (.encFan b)
  | 0x05#8 => .ok (.encPair a b)
  | 0x06#8 => .ok .validateWord
  | 0x07#8 => .ok .validatePulses
  | 0x08#8 => .ok .transmit
  | _ => .error .reservedOpcode

/-- Decoding of a command word, R71's checks in R71's order. -/
def decodeWord (w : Word) : Except DecodeError Instr :=
  if opField w < 0x01#8 ∨ 0x08#8 < opField w then .error .reservedOpcode
  else if rsvField w ≠ 0 then .error .reservedField
  else if opField w ≠ 0x05#8 ∧ aField w ≠ 0 then .error .addressField
  else if opField w = 0x01#8 ∧ bField w >>> 1 ≠ 0 then .error .powerField
  else if 0x06#8 ≤ opField w ∧ bField w ≠ 0 then .error .operandField
  else dispatchOpcode (opField w) (aField w) (bField w)

/-- The four byte lanes of a word, lane 0 first: lane 0 carries bits [7:0] (20_memory R57). -/
def laneBytes (w : Word) : List Byte :=
  [w.extractLsb' 0 8, w.extractLsb' 8 8, w.extractLsb' 16 8, w.extractLsb' 24 8]

/-- The word that four bytes make, bits [7:0] first: what four byte lanes carry (20_memory R57), and how every 32-bit
layout of the spec is put together from its bytes. -/
def wordOfLanes (b0 b1 b2 b3 : Byte) : Word := (b3 ++ b2 ++ b1 ++ b0 : BitVec (8 + 8 + 8 + 8))

/-- Decoding from bytes: one command takes exactly the four lanes of one word (R70), the rest is left over. -/
def decode : List Byte → Except DecodeError (Instr × List Byte)
  | b0 :: b1 :: b2 :: b3 :: rest =>
    match decodeWord (wordOfLanes b0 b1 b2 b3) with
    | .ok i => .ok (i, rest)
    | .error e => .error e
  | _ => .error .tooShort

/-- A command word from OP, A and B, with RSV zero (R70). -/
def commandWord (op a b : Byte) : Word := wordOfLanes b a 0 op

/-- The word of an instruction, from the opcode map of R72. -/
def encode : Instr → Word
  | .encPower b => commandWord 0x01 0 b
  | .encMode m => commandWord 0x02 0 m
  | .encTemp b => commandWord 0x03 0 b
  | .encFan f => commandWord 0x04 0 f
  | .encPair a c => commandWord 0x05 a c
  | .validateWord => commandWord 0x06 0 0
  | .validatePulses => commandWord 0x07 0 0
  | .transmit => commandWord 0x08 0 0

/-- The match column of R72's row for an instruction. -/
def Instr.rowMatch : Instr → Word
  | .encPower _ => 0x01000000
  | .encMode _ => 0x02000000
  | .encTemp _ => 0x03000000
  | .encFan _ => 0x04000000
  | .encPair _ _ => 0x05000000
  | .validateWord => 0x06000000
  | .validatePulses => 0x07000000
  | .transmit => 0x08000000

/-- The mask column of R72's row for an instruction. -/
def Instr.rowMask : Instr → Word
  | .encPower _ => 0xFFFFFFFE
  | .encMode _ => 0xFFFFFF00
  | .encTemp _ => 0xFFFFFF00
  | .encFan _ => 0xFFFFFF00
  | .encPair _ _ => 0xFFFF0000
  | .validateWord => 0xFFFFFFFF
  | .validatePulses => 0xFFFFFFFF
  | .transmit => 0xFFFFFFFF

/-- The command word that spec/opcode_table.json's numbering gives: bit 0 of `w` is bit 0 of the word, and bits from
`nbits` on are zero. -/
def tableWord (nbits w : Nat) : Word := BitVec.ofNat 32 (w % 2 ^ nbits)

/-- What the decoder reads from the bytes of a table word, laid out in its byte lanes. -/
def decodeTableWord (nbits w : Nat) : Option Instr :=
  match decode (laneBytes (tableWord nbits w)) with
  | .ok (i, _) => some i
  | .error _ => none

end Sys2Proof
end

