-- ==== Sys2Proof/Config.lean ====
section
/-! DEFINITION. What is fixed for a built block and never written by a step: the build parameters of 00_scope R4, and the
two platform parameters the spec leaves open (R5), as constants with no body. -/

namespace Sys2Proof

/-- The build parameters of R4: the device address and the command byte of each intent value. -/
structure Build where
  devAddr      : Byte
  cmdPowerOn   : Byte
  cmdPowerOff  : Byte
  cmdModeCool  : Byte
  cmdModeHeat  : Byte
  cmdModeFan   : Byte
  cmdModeDry   : Byte
  cmdModeAuto  : Byte
  tempBase     : Byte
  cmdFanLow    : Byte
  cmdFanMedium : Byte
  cmdFanHigh   : Byte
  cmdFanAuto   : Byte
deriving DecidableEq, Repr

/-- The one constraint R4 puts on a build: TEMP_BASE + 14 <= 0xFF. -/
abbrev Build.wf (b : Build) : Prop := b.tempBase.toNat + 14 ≤ 0xFF

/-- The failure values of the transmitter (43_transmit R141). The source lists the first three; whether there are other
kinds is not in any source (91_not_in_source N12), so `other` stands for any further one. PRESUMED shape, safe: log 5. -/
inductive HardwareError where
  | connectionLost
  | busy
  | deviceAbsent
  | other (kind : Nat)
deriving DecidableEq, Repr

/-- HW_ERR_ENCODING (R5, R141; decision D25, OPEN): the 8-bit code the platform gives each error. No body: no proof can
see a value of it. Safe: log 3. -/
opaque Config.hwErrEncoding : HardwareError → Byte

/-- BLOCK_BASE (R5, R50; decision D4, OPEN): the bus address of offset 0x000 of the window. No body. Safe: log 4. -/
opaque Config.blockBase : Nat

end Sys2Proof
end

