-- ==== Sys2Proof/Machine/Params.lean ====
section
/-! DEFINITION. The numbers the spec fixes: the protocol constants of 00_scope R3 and the default build of R4. -/

namespace Sys2Proof.Machine

/-- T_HDR_MARK (R3). -/
def tHdrMark : Duration := 9000

/-- T_HDR_SPACE (R3). -/
def tHdrSpace : Duration := 4500

/-- T_BIT_MARK (R3). -/
def tBitMark : Duration := 560

/-- T_ONE_SPACE (R3). -/
def tOneSpace : Duration := 1690

/-- T_ZERO_SPACE (R3). -/
def tZeroSpace : Duration := 560

/-- T_STOP_MARK (R3). -/
def tStopMark : Duration := 560

/-- CARRIER_HZ (R3). -/
def carrierHz : Nat := 38000

/-- CARRIER_DUTY_PERMILLE (R3). -/
def carrierDutyPermille : Nat := 500

/-- TEMP_MIN (R3). -/
def tempMin : Int := 16

/-- TEMP_MAX (R3). -/
def tempMax : Int := 30

/-- The defaults of R4's table. -/
def defaultBuild : Build where
  devAddr      := 0x00
  cmdPowerOn   := 0x08
  cmdPowerOff  := 0x09
  cmdModeCool  := 0x30
  cmdModeHeat  := 0x31
  cmdModeFan   := 0x32
  cmdModeDry   := 0x33
  cmdModeAuto  := 0x34
  tempBase     := 0x10
  cmdFanLow    := 0x40
  cmdFanMedium := 0x41
  cmdFanHigh   := 0x42
  cmdFanAuto   := 0x43

/-- The named build this machine is (R4: a model "fixes them only for a named build"). DESIGN CHOICE, unsafe for a block
built otherwise: log 2. -/
def namedBuild : Build := defaultBuild

end Sys2Proof.Machine
end

