-- ==== Sys2Proof/Machine/Frame.lean ====
section
/-! DEFINITION. The pure functions of the frame encoder (41_frame_generator R100 to R103) and the pulse decoder
(42_complement_validator R121). -/

namespace Sys2Proof.Machine

/-- Cpl(b), the one's complement of a byte (R103). -/
def cpl (b : Byte) : Byte := ~~~b

/-- The two durations of one bit: the mark, then the space that carries the bit (R101). -/
def bitPulse (bit : Bool) : List Duration := [tBitMark, if bit then tOneSpace else tZeroSpace]

/-- BitPulses(b): 16 durations, bit 0 first (R101). -/
def bitPulses (b : Byte) : List Duration := (List.range 8).flatMap fun i => bitPulse (b.getLsbD i)

/-- NecFrame(a, c) as a list (R100). -/
def necFrameList (a c : Byte) : List Duration :=
  [tHdrMark, tHdrSpace] ++ bitPulses a ++ bitPulses (cpl a) ++ bitPulses c ++ bitPulses (cpl c) ++ [tStopMark]

/-- A frame is always 67 entries (R106). -/
theorem necFrameList_length (a c : Byte) : (necFrameList a c).length = 67 := by
  simp [necFrameList, bitPulses, bitPulse]

/-- NecFrame(a, c), the 67 durations of a frame (R100). -/
def necFrame (a c : Byte) : Pulses :=
  ⟨(necFrameList a c).toArray, (List.size_toArray).trans (necFrameList_length a c)⟩

/-- FrameWord(a, c) = { Cpl(c), c, Cpl(a), a } (R102). -/
def frameWordOf (a c : Byte) : Word := wordOfLanes a (cpl a) c (cpl c)

/-- The mark of data bit n, entry 2 + 2n (R121). -/
def dataMark (p : Pulses) (n : Fin 32) : Duration := p[2 + 2 * n.val]

/-- The space of data bit n, entry 3 + 2n (R121). -/
def dataSpace (p : Pulses) (n : Fin 32) : Duration := p[3 + 2 * n.val]

/-- Data bit n has NEC shape: its mark is 560 and its space 560 or 1690 (R121). -/
def dataBitShape (p : Pulses) (n : Fin 32) : Bool :=
  dataMark p n == tBitMark && (dataSpace p n == tZeroSpace || dataSpace p n == tOneSpace)

/-- fmt_ok of DecodePulses (R121): the header, every data bit and the stop mark, each by exact value. -/
def pulsesFmtOk (p : Pulses) : Bool :=
  p[0] == tHdrMark && p[1] == tHdrSpace && p[66] == tStopMark && (List.finRange 32).all (dataBitShape p)

/-- The word whose bit n is 1 exactly when the space of data bit n is 1690 (R121). -/
def pulsesWord (p : Pulses) : Word := BitVec.ofFnLE fun n => dataSpace p n == tOneSpace

/-- DecodePulses(P) (R121). -/
def decodePulses (p : Pulses) : Bool × Word :=
  if pulsesFmtOk p then (true, pulsesWord p) else (false, 0)

end Sys2Proof.Machine
end

