-- ==== Sys2Proof/Machine/State.lean ====
section
/-! DEFINITION. The state of NECIR-CORE (10_state R21), the agents beside the core (00_scope R2), and the state after
power-on reset (70_reset_and_hazards R191). Plain data throughout. -/

namespace Sys2Proof.Machine

/-- STATUS.TXSTATE, the four sequencer states of 10_state R28. -/
inductive TxState where
  | idle | waitCarrierOn | waitSend | waitCarrierOff
deriving DecidableEq, Repr

/-- The outcomes an operation can record in STATUS.ERR (60_exceptions R170). -/
inductive ErrCode where
  | none | outOfRange | unknownEnum | illegalCommand | noFrame | hardware
deriving DecidableEq, Repr

/-- The contents of PEND while it is valid (10_state R37): the first error's code and step. -/
structure Pend where
  code : Byte
  step : BitVec 2
deriving DecidableEq, Repr

/-- A call the block issues to the transmitter (43_transmit R140). -/
inductive Call where
  | setCarrier (frequencyHz dutyPermille : Nat)
  | sendPulses (sequence : Pulses)
deriving DecidableEq, Repr

/-- A response of the transmitter (43_transmit R140). -/
inductive Response where
  | ok
  | err (e : HardwareError)
deriving DecidableEq, Repr

/-- One entry of the ordered log of calls and answers (10_state R38). -/
inductive LogEntry where
  | call (c : Call)
  | answer (r : Response)
deriving DecidableEq, Repr

/-- The width of a bus access (20_memory R52). -/
inductive AccessWidth where
  | byte | half | word
deriving DecidableEq, Repr

/-- One bus access of the host, at a byte offset of the block's window (00_scope R7, 20_memory R50). -/
inductive Access where
  | read (offset : Nat) (width : AccessWidth)
  | write (offset : Nat) (width : AccessWidth) (value : Word)
deriving DecidableEq, Repr

/-- What the bus gives the host for a completed access (20_memory R52 to R55). -/
inductive BusResponse where
  /-- a read's register value -/
  | data (v : Word)
  /-- a write was taken -/
  | done
  /-- the error response of R52 and R53 -/
  | busError
deriving DecidableEq, Repr

/-- A completed access with its response. -/
structure BusRecord where
  access   : Access
  response : BusResponse
deriving DecidableEq, Repr

/-- One line of what the host has still to run: a bus access, or one of the two places where the pseudo-instructions of
30_encoding R78 let the host decide on what it reads. DEDUCED, safe: log 17. -/
inductive HostLine where
  /-- one bus access (R77) -/
  | access (a : Access)
  /-- `wait.idle`: read STATUS until BUSY reads 0 (R78) -/
  | waitIdle
  /-- `rd STATUS` (stop if ERR != NONE): when ERR is not NONE the next `skip` lines are not run (R78, send.temp) -/
  | stopIfErr (skip : Nat)
deriving DecidableEq, Repr

/-- Which agent takes the next step (00_scope R2), RST being the platform's (70_reset_and_hazards R190). -/
inductive Turn where
  | host | transmitter | rst
deriving DecidableEq, Repr

/-- The machine. The fields from `cmd` to `pend` are 10_state R21's list; `callLog` is R38's; the last four are the model's
own, for the agents beside the core (log 6, log 7, log 10). BUSY is not stored (R24); CARRIER is a constant (R36). -/
structure State where
  /-- CMD (R22) -/
  cmd        : Word
  /-- STATUS.FRAME_READY (R25) -/
  frameReady : Bool
  /-- STATUS.CARRIER_ON (R26) -/
  carrierOn  : Bool
  /-- STATUS.DRAIN (R27) -/
  drain      : Bool
  /-- STATUS.TXSTATE (R28) -/
  txState    : TxState
  /-- STATUS.ERR (R29) -/
  err        : BitVec 4
  /-- PULSE[0..66] (R30) -/
  pulse      : Pulses
  /-- PAIR (R31) -/
  pair       : Word
  /-- FRAMEWORD (R32) -/
  frameWord  : Word
  /-- RXWORD (R33) -/
  rxWord     : Word
  /-- RXRESULT (R34) -/
  rxResult   : Word
  /-- HWERR (R35) -/
  hwErr      : Word
  /-- PEND, `none` when invalid (R37) -/
  pend       : Option Pend
  /-- the calls issued and the answers received, oldest first (R38) -/
  callLog    : List LogEntry
  /-- what the host has still to run, in order; a held write stays at its head (R56, R60) -/
  host       : List HostLine
  /-- the responses the transmitter will give, in order (43_transmit R140, R151) -/
  answers    : List Response
  /-- which agent takes each next step -/
  schedule   : List Turn
  /-- the accesses the block has completed, oldest first, with their responses -/
  busLog     : List BusRecord
deriving DecidableEq, Repr

/-- Why a step stops with a fault. -/
inductive Fault where
  /-- Raised by the host's turn when its access has an offset outside the 4 KiB window (20_memory R50): it is no access to
  this block, and the spec gives it no effect here. Safe: log 9. -/
  | outsideWindow (offset : Nat)
deriving DecidableEq, Repr

/-- Why an instruction has no meaning. -/
inductive Refusal where
  /-- Raised by an arm of `exec` whose instruction has no meaning yet; safe. No arm raises it now. -/
  | notModelled (mnemonic : String)
deriving DecidableEq, Repr

/-- The state after power-on reset, every block element as 70_reset_and_hazards R191 gives it. The other agents have
nothing to do and nothing is recorded (the model's own fields, DESIGN CHOICE: log 6, log 10). -/
def State.reset : State where
  cmd        := 0x00000000
  frameReady := false
  carrierOn  := false
  drain      := false
  txState    := .idle
  err        := 0x0
  pulse      := Vector.replicate 67 0
  pair       := 0x00000000
  frameWord  := 0x00000000
  rxWord     := 0x00000000
  rxResult   := 0x00000000
  hwErr      := 0x00000000
  pend       := none
  callLog    := []
  host       := []
  answers    := []
  schedule   := []
  busLog     := []

end Sys2Proof.Machine
end

