-- ==== Sys2Proof/Machine/Flags.lean ====
section
/-! DEFINITION. Every status and result field: the codes of STATUS.ERR and STATUS.TXSTATE, BUSY, the STATUS word, PAIR,
the complement check and RXRESULT, HWERR, CARRIER. -/

namespace Sys2Proof.Machine

/-- The 4-bit code of an outcome (60_exceptions R170). -/
def ErrCode.code : ErrCode → BitVec 4
  | .none => 0x0
  | .outOfRange => 0x1
  | .unknownEnum => 0x2
  | .illegalCommand => 0x3
  | .noFrame => 0x4
  | .hardware => 0x5

/-- The 2-bit code of a sequencer state (10_state R28). -/
def TxState.code : TxState → BitVec 2
  | .idle => 0
  | .waitCarrierOn => 1
  | .waitSend => 2
  | .waitCarrierOff => 3

/-- STATUS.BUSY = (STATUS.TXSTATE != 0) (10_state R24). -/
def State.busy (s : State) : Bool := s.txState != .idle

/-- STATUS bits [7:0]: TXSTATE [5:4], DRAIN [3], CARRIER_ON [2], FRAME_READY [1], BUSY [0]; [7:6] read 0 (10_state R23). -/
def State.statusLow (s : State) : Byte :=
  0#2 ++ s.txState.code ++ BitVec.ofBool s.drain ++ BitVec.ofBool s.carrierOn ++ BitVec.ofBool s.frameReady
    ++ BitVec.ofBool s.busy

/-- The STATUS word: ERR in [11:8], every reserved bit 0 (10_state R23). -/
def State.statusWord (s : State) : Word := wordOfLanes s.statusLow (s.err.zeroExtend 8) 0 0

/-- PAIR for a framed pair, zext_32({1, c, a}): ADDR [7:0], CMD [15:8], VALID [16] (41_frame_generator R104). -/
def pairWord (a c : Byte) : Word := wordOfLanes a c 1 0

/-- PAIR.ADDR, bits [7:0] (10_state R31). -/
def State.pairAddr (s : State) : Byte := s.pair.extractLsb' 0 8

/-- PAIR.CMD, bits [15:8] (10_state R31). -/
def State.pairCmd (s : State) : Byte := s.pair.extractLsb' 8 8

/-- PAIR.VALID, bit [16] (10_state R31). -/
def State.pairValid (s : State) : Bool := s.pair.getLsbD 16

/-- addr_ok of ComplementCheck(w) (42_complement_validator R120). -/
def addrOk (w : Word) : Bool := (w.extractLsb' 0 8 ^^^ w.extractLsb' 8 8) == 0xFF#8

/-- cmd_ok of ComplementCheck(w) (42_complement_validator R120). -/
def cmdOk (w : Word) : Bool := (w.extractLsb' 16 8 ^^^ w.extractLsb' 24 8) == 0xFF#8

/-- RXRESULT bits [23:16] for a checked word of NEC shape: VALID [19], FMT_OK [18] = 1, CMD_OK [17], ADDR_OK [16]
(10_state R34, 42_complement_validator R122). -/
def rxFlagsOf (w : Word) : Byte :=
  0#4 ++ BitVec.ofBool (addrOk w && cmdOk w) ++ 1#1 ++ BitVec.ofBool (cmdOk w) ++ BitVec.ofBool (addrOk w)

/-- RXRESULT for a checked word of NEC shape: zext_32({addr_ok & cmd_ok, 1, cmd_ok, addr_ok, w[23:16], w[7:0]})
(42_complement_validator R122, R123; 10_state R34). -/
def rxResultOf (w : Word) : Word := wordOfLanes (w.extractLsb' 0 8) (w.extractLsb' 16 8) (rxFlagsOf w) 0

/-- HWERR for a recorded error, zext_32({PEND.step, PEND.code}): HW_CODE [7:0], HW_STEP [9:8] (43_transmit R146;
10_state R35). -/
def hwErrOf (p : Pend) : Word := wordOfLanes p.code (p.step.zeroExtend 8) 0 0

/-- CARRIER, the constant word: DUTY_PERMILLE in [31:16], FREQ_HZ in [15:0] (10_state R36). -/
def carrierWord : Word := BitVec.ofNat 32 (carrierDutyPermille * 2 ^ 16 + carrierHz)

end Sys2Proof.Machine
end

