-- ==== Sys2Proof/Machine/Ops.lean ====
section
/-! DEFINITION. The shared operations: raising an error (60_exceptions R171), emitting a frame (41_frame_generator R104),
issuing a call and keeping the logs (10_state R38), and the register map with its reads and plain stores
(20_memory R51 to R57). -/

namespace Sys2Proof.Machine

/-- `CMD <- v` (10_state R22). -/
def setCmd (v : Word) (s : State) : State := { s with cmd := v }

/-- The turns that are left (log 6). -/
def setSchedule (sch : List Turn) (s : State) : State := { s with schedule := sch }

/-- The lines the host has left (log 7). -/
def setHost (q : List HostLine) (s : State) : State := { s with host := q }

/-- The answers the transmitter has left (log 6). -/
def setAnswers (as : List Response) (s : State) : State := { s with answers := as }

/-- `RXWORD <- v` (10_state R33). -/
def setRxWord (v : Word) (s : State) : State := { s with rxWord := v }

/-- `STATUS.ERR <- code`. -/
def setErr (e : ErrCode) (s : State) : State := { s with err := e.code }

/-- `raise Err(code)` (60_exceptions R171): the block's whole exception mechanism. It writes STATUS.ERR and no other state,
and the operation ends. Nothing is saved and nothing returns from it: there is no pc, no vector and no cause register
beside STATUS.ERR and HWERR (R177). -/
def raiseErr (e : ErrCode) (s : State) : State := setErr e s

/-- EmitFrame(a, c) (41_frame_generator R104): one step writes PAIR, FRAMEWORD, all of PULSE, FRAME_READY and ERR. -/
def emitFrame (a c : Byte) (s : State) : State :=
  { s with
    pair := pairWord a c
    frameWord := frameWordOf a c
    pulse := necFrame a c
    frameReady := true
    err := ErrCode.none.code }

/-- `issue c`: the call joins the log and is outstanding until it is answered (10_state R38, 43_transmit R140). -/
def issue (c : Call) (s : State) : State := { s with callLog := s.callLog ++ [.call c] }

/-- The transmitter's answer joins the log (10_state R38). -/
def logAnswer (r : Response) (s : State) : State := { s with callLog := s.callLog ++ [.answer r] }

/-- A completed bus access joins the host's record. -/
def recordBus (a : Access) (r : BusResponse) (s : State) : State := { s with busLog := s.busLog ++ [⟨a, r⟩] }

/-- The call whose answer the block awaits: the last entry of the log, when that is a call (10_state R28; log 11). -/
def State.outstanding (s : State) : Option Call :=
  match s.callLog.getLast? with
  | some (.call c) => some c
  | _ => none

/-- The registers of the window (20_memory R51). -/
inductive Reg where
  | cmd | status | pair | frameWord | rxWord | rxResult | hwErr | carrier
  | pulse (k : Fin 67)
deriving DecidableEq, Repr

/-- The size of the register window, 4 KiB (20_memory R50). -/
def windowSize : Nat := 0x1000

/-- The offset of a register (20_memory R51). -/
def regOffset : Reg → Nat
  | .cmd => 0x000
  | .status => 0x004
  | .pair => 0x008
  | .frameWord => 0x00C
  | .rxWord => 0x010
  | .rxResult => 0x014
  | .hwErr => 0x018
  | .carrier => 0x01C
  | .pulse k => 0x100 + 4 * k.val

/-- The register at an aligned offset, none where the offset is unmapped or not a multiple of 4 (20_memory R51). -/
def regAt (off : Nat) : Option Reg :=
  if off = 0x000 then some .cmd
  else if off = 0x004 then some .status
  else if off = 0x008 then some .pair
  else if off = 0x00C then some .frameWord
  else if off = 0x010 then some .rxWord
  else if off = 0x014 then some .rxResult
  else if off = 0x018 then some .hwErr
  else if off = 0x01C then some .carrier
  else if h : 0x100 ≤ off ∧ off ≤ 0x208 ∧ off % 4 = 0 then
    some (.pulse ⟨(off - 0x100) / 4, by omega⟩)
  else none

/-- The register an access of a given width reaches: only 32-bit accesses are admitted (20_memory R52), at a multiple of 4
that is mapped (R53). None means a bus error. -/
def admitted (off : Nat) (w : AccessWidth) : Option Reg :=
  match w with
  | .word => regAt off
  | .half => none
  | .byte => none

/-- What a read of a register returns, reserved bits 0; a pulse entry is zero-extended, CARRIER is the constant
(20_memory R54, 10_state R22 to R36). -/
def readReg (r : Reg) (s : State) : Word :=
  match r with
  | .cmd => s.cmd
  | .status => s.statusWord
  | .pair => s.pair &&& 0x0001FFFF
  | .frameWord => s.frameWord
  | .rxWord => s.rxWord
  | .rxResult => s.rxResult &&& 0x000FFFFF
  | .hwErr => s.hwErr &&& 0x000003FF
  | .carrier => carrierWord
  | .pulse k => s.pulse[k.val].zeroExtend 32

/-- The effect of a write on a register other than CMD (20_memory R55): RXWORD and PULSE[k] store, a pulse write clears
FRAME_READY and ignores v[31:16], and a read-only register ignores the write. CMD's write starts an operation and is
`acceptCommand`. -/
def storeReg (r : Reg) (v : Word) (s : State) : State :=
  match r with
  | .rxWord => setRxWord v s
  | .pulse k => { s with pulse := s.pulse.set k.val (v.extractLsb' 0 16), frameReady := false }
  | .cmd => s
  | .status => s
  | .pair => s
  | .frameWord => s
  | .rxResult => s
  | .hwErr => s
  | .carrier => s

/-- The byte of the window at an offset, through the little-endian lanes of R57; none where nothing is mapped. -/
def State.windowByte? (s : State) (off : Nat) : Option Byte :=
  match regAt (4 * (off / 4)) with
  | some r => (laneBytes (readReg r s))[off % 4]?
  | none => none

/-- The window offset a bus address reaches: the window starts at BLOCK_BASE (20_memory R50; log 4). -/
def windowOffset? (busAddress : Nat) : Option Nat :=
  if Config.blockBase ≤ busAddress ∧ busAddress < Config.blockBase + windowSize then
    some (busAddress - Config.blockBase)
  else none

end Sys2Proof.Machine
end

