-- ==== Sys2Proof/Machine/Generator.lean ====
section
/-! DEFINITION. The raw frame operation ENC_PAIR (41_frame_generator R105). -/

namespace Sys2Proof.Machine

/-- ENC_PAIR: EmitFrame(A, B), the address being the operand and not DEV_ADDR; no error path (R105). -/
def execEncPair (a c : Byte) (s : State) : Host.Outcome State Fault Refusal := .next (emitFrame a c s)

end Sys2Proof.Machine
end

