-- ==== Sys2Proof/Machine/Operands.lean ====
section
/-! DEFINITION. The operand forms (30_encoding R73 to R75): enumeration codes, the signed temperature, and the command byte
each operand value maps to under given build parameters (40_intent_mapper R91 to R94). -/

namespace Sys2Proof.Machine

/-- P = B[0], 1 = on (R74, R91). -/
def powerOperand (b : Byte) : Bool := b.getLsbD 0

/-- The mode a code stands for, in the source's listing order; codes 5..255 stand for none (R74). -/
def modeOfCode : Byte → Option Mode
  | 0#8 => some .cool
  | 1#8 => some .heat
  | 2#8 => some .fan
  | 3#8 => some .dry
  | 4#8 => some .auto
  | _ => none

/-- The code of a mode (R74). -/
def modeCode : Mode → Byte
  | .cool => 0
  | .heat => 1
  | .fan => 2
  | .dry => 3
  | .auto => 4

/-- The fan speed a code stands for; codes 4..255 stand for none (R74). -/
def fanOfCode : Byte → Option FanSpeed
  | 0#8 => some .low
  | 1#8 => some .medium
  | 2#8 => some .high
  | 3#8 => some .auto
  | _ => none

/-- The code of a fan speed (R74). -/
def fanCode : FanSpeed → Byte
  | .low => 0
  | .medium => 1
  | .high => 2
  | .auto => 3

/-- The temperature operand: sext_32(B) read as a two's-complement integer, -128..127 (R75). -/
def tempOperand (b : Byte) : Int := (b.signExtend 32).toInt

/-- ENC_POWER's command byte (R91). -/
def powerCommand (bld : Build) (on : Bool) : Byte := if on then bld.cmdPowerOn else bld.cmdPowerOff

/-- The command byte of a mode (R92). -/
def modeCommand (bld : Build) : Mode → Byte
  | .cool => bld.cmdModeCool
  | .heat => bld.cmdModeHeat
  | .fan => bld.cmdModeFan
  | .dry => bld.cmdModeDry
  | .auto => bld.cmdModeAuto

/-- ENC_TEMP's command byte, or none outside [TEMP_MIN, TEMP_MAX]: TEMP_BASE + (t - 16) in exact integers, an 8-bit value
for every build that meets R4's constraint (R93). A build that does not is no block of the spec: log 2. -/
def tempCommand (bld : Build) (t : Int) : Option Byte :=
  if t < tempMin ∨ tempMax < t then none else some (BitVec.ofInt 8 (bld.tempBase.toNat + (t - 16)))

/-- The command byte of a fan speed (R94). -/
def fanCommand (bld : Build) : FanSpeed → Byte
  | .low => bld.cmdFanLow
  | .medium => bld.cmdFanMedium
  | .high => bld.cmdFanHigh
  | .auto => bld.cmdFanAuto

end Sys2Proof.Machine
end

