-- ==== Sys2Proof/Machine/Mapper.lean ====
section
/-! DEFINITION. The command-intent mapper (40_intent_mapper): ENC_POWER, ENC_MODE, ENC_TEMP, ENC_FAN. Each `…For` meaning
takes the build parameters (00_scope R4); the machine's own meaning fixes them to the named build. -/

namespace Sys2Proof.Machine

/-- The common tail of an intent operation (R90, R96): a command byte is framed with DEV_ADDR, a validation error is
recorded and nothing else happens. -/
def finishIntent (bld : Build) (e : ErrCode) (c : Option Byte) (s : State) : State :=
  match c with
  | some c => emitFrame bld.devAddr c s
  | none => raiseErr e s

/-- ENC_POWER under given build parameters (R91). -/
def encPowerFor (bld : Build) (b : Byte) (s : State) : State :=
  emitFrame bld.devAddr (powerCommand bld (powerOperand b)) s

/-- ENC_MODE under given build parameters (R92). -/
def encModeFor (bld : Build) (m : Byte) (s : State) : State :=
  finishIntent bld .unknownEnum ((modeOfCode m).map (modeCommand bld)) s

/-- ENC_TEMP under given build parameters (R93). -/
def encTempFor (bld : Build) (b : Byte) (s : State) : State :=
  finishIntent bld .outOfRange (tempCommand bld (tempOperand b)) s

/-- ENC_FAN under given build parameters (R94). -/
def encFanFor (bld : Build) (f : Byte) (s : State) : State :=
  finishIntent bld .unknownEnum ((fanOfCode f).map (fanCommand bld)) s

/-- ENC_POWER (R91). -/
def execEncPower (b : Byte) (s : State) : Host.Outcome State Fault Refusal := .next (encPowerFor namedBuild b s)

/-- ENC_MODE (R92). -/
def execEncMode (m : Byte) (s : State) : Host.Outcome State Fault Refusal := .next (encModeFor namedBuild m s)

/-- ENC_TEMP (R93). -/
def execEncTemp (b : Byte) (s : State) : Host.Outcome State Fault Refusal := .next (encTempFor namedBuild b s)

/-- ENC_FAN (R94). -/
def execEncFan (f : Byte) (s : State) : Host.Outcome State Fault Refusal := .next (encFanFor namedBuild f s)

end Sys2Proof.Machine
end

