-- ==== Sys2Proof/Machine/Transmit.lean ====
section
/-! DEFINITION. TRANSMIT and the transmit sequencer (43_transmit R142 to R147). -/

namespace Sys2Proof.Machine

/-- The carrier-on call, SetCarrier(38000, 500) (R143). -/
def carrierOnCall : Call := .setCarrier carrierHz carrierDutyPermille

/-- The carrier-off call, SetCarrier(0, 0) (R140, R144). -/
def carrierOffCall : Call := .setCarrier 0 0

/-- Start(), step 1 of a transmission (R143). -/
def startTransmit (s : State) : State :=
  issue carrierOnCall
    { s with
      err := ErrCode.none.code
      hwErr := 0x00000000
      pend := none
      carrierOn := true
      txState := .waitCarrierOn }

/-- TRANSMIT's accepting step (R142). -/
def execTransmit (s : State) : Host.Outcome State Fault Refusal :=
  if s.frameReady then .next (startTransmit s) else .next (raiseErr .noFrame s)

/-- `PEND <- p`, invalid being `none` (10_state R37). -/
def setPend (p : Option Pend) (s : State) : State := { s with pend := p }

/-- `STATUS.CARRIER_ON <- 0` (R146). -/
def clearCarrierOn (s : State) : State := { s with carrierOn := false }

/-- `STATUS.ERR <- HARDWARE` and HWERR from PEND (R146). -/
def reportHardware (p : Pend) (s : State) : State := { s with err := ErrCode.hardware.code, hwErr := hwErrOf p }

/-- The last lines of R146: PEND invalid, DRAIN 0, TXSTATE IDLE. -/
def endTransmit (s : State) : State := { s with pend := none, drain := false, txState := .idle }

/-- Record(e, step): the first hardware error of a TRANSMIT is kept, and none while DRAIN = 1 (R147). -/
def recordError (e : HardwareError) (step : BitVec 2) (s : State) : State :=
  if s.drain = false ∧ s.pend = none then setPend (some ⟨Config.hwErrEncoding e, step⟩) s else s

/-- `if r == Err(e): Record(e, step)` (R144 to R146). -/
def recordResponse (r : Response) (step : BitVec 2) (s : State) : State :=
  match r with
  | .ok => s
  | .err e => recordError e step s

/-- Step 3: carrier-off is requested (R144, R145). -/
def requestCarrierOff (s : State) : State := issue carrierOffCall { s with txState := .waitCarrierOff }

/-- Step 2: the pulse train is handed over by value (R144; 20_memory R64). -/
def requestSend (s : State) : State := issue (.sendPulses s.pulse) { s with txState := .waitSend }

/-- The response in WAIT_CARRIER_ON (R144). -/
def onCarrierOnAnswer (r : Response) (s : State) : State :=
  if r = .ok ∧ s.drain = false then requestSend s else requestCarrierOff (recordResponse r 1 s)

/-- The response in WAIT_SEND (R145). -/
def onSendAnswer (r : Response) (s : State) : State := requestCarrierOff (recordResponse r 2 s)

/-- The first lines of R146: an Ok clears CARRIER_ON, an error is recorded as step 3's. -/
def noteCarrierOff (r : Response) (s : State) : State :=
  match r with
  | .ok => clearCarrierOn s
  | .err e => recordError e 3 s

/-- The outcome of a transmission (R146): with DRAIN = 0, HARDWARE with HWERR when an error was recorded and NONE otherwise;
with DRAIN = 1 neither register is written. -/
def reportOutcome (s : State) : State :=
  if s.drain then s
  else
    match s.pend with
    | some p => reportHardware p s
    | none => setErr .none s

/-- The response in WAIT_CARRIER_OFF, completion (R146). -/
def onCarrierOffAnswer (r : Response) (s : State) : State :=
  endTransmit (reportOutcome (noteCarrierOff r s))

/-- The core step that consumes a response, by TXSTATE (R144 to R146). With no call outstanding there is no response to
consume (R140). -/
def consumeAnswer (r : Response) (s : State) : State :=
  match s.txState with
  | .idle => s
  | .waitCarrierOn => onCarrierOnAnswer r (logAnswer r s)
  | .waitSend => onSendAnswer r (logAnswer r s)
  | .waitCarrierOff => onCarrierOffAnswer r (logAnswer r s)

end Sys2Proof.Machine
end

