-- ==== Sys2Proof/Machine/Validator.lean ====
section
/-! DEFINITION. The byte-complement validator (42_complement_validator): VALIDATE_WORD and VALIDATE_PULSES. A failed check is
a result in RXRESULT, not an error. -/

namespace Sys2Proof.Machine

/-- RXRESULT of a checked word, and STATUS.ERR <- NONE (R122, R123). -/
def reportWord (w : Word) (s : State) : State := setErr .none { s with rxResult := rxResultOf w }

/-- VALIDATE_WORD checks RXWORD (R122). -/
def execValidateWord (s : State) : Host.Outcome State Fault Refusal := .next (reportWord s.rxWord s)

/-- VALIDATE_PULSES decodes the pulse buffer; RXWORD is written only when the buffer has NEC shape (R123). -/
def execValidatePulses (s : State) : Host.Outcome State Fault Refusal :=
  match decodePulses s.pulse with
  | (true, w) => .next (reportWord w (setRxWord w s))
  | (false, _) => .next (setErr .none { s with rxResult := 0x00000000 })

end Sys2Proof.Machine
end

