-- ==== Sys2Proof/Machine/Dispatch.lean ====
section
/-! DEFINITION. One arm per operation (30_encoding R72), each a direct call of its meaning. -/

namespace Sys2Proof.Machine

/-- The operation of a decoded command, CMD already holding its word (10_state R22). -/
def exec (i : Instr) (s : State) : Host.Outcome State Fault Refusal :=
  match i with
  | .encPower b => Sys2Proof.Machine.execEncPower b s
  | .encMode m => Sys2Proof.Machine.execEncMode m s
  | .encTemp b => Sys2Proof.Machine.execEncTemp b s
  | .encFan f => Sys2Proof.Machine.execEncFan f s
  | .encPair a c => Sys2Proof.Machine.execEncPair a c s
  | .validateWord => Sys2Proof.Machine.execValidateWord s
  | .validatePulses => Sys2Proof.Machine.execValidatePulses s
  | .transmit => Sys2Proof.Machine.execTransmit s

end Sys2Proof.Machine
end

