-- ==== Sys2Proof/Machine/Reset.lean ====
section
/-! DEFINITION. The block reset RST (70_reset_and_hazards R192, R193). -/

namespace Sys2Proof.Machine

/-- RST: the core domain takes its POR values and PEND becomes invalid; the sequencer domain is kept, but that DRAIN becomes
1 when a transmission is running. No call is issued and the outstanding one is kept. -/
def blockReset (s : State) : State :=
  { s with
    cmd := 0x00000000
    frameReady := false
    err := ErrCode.none.code
    pulse := Vector.replicate 67 0
    pair := 0x00000000
    frameWord := 0x00000000
    rxWord := 0x00000000
    rxResult := 0x00000000
    hwErr := 0x00000000
    pend := none
    drain := s.drain || s.busy }

end Sys2Proof.Machine
end

