-- ==== Sys2Proof/Machine/Bus.lean ====
section
/-! DEFINITION. The turns of the agents: the host's bus access with its hold (20_memory R52 to R56) and pseudo-instruction
lines (30_encoding R78), the acceptance of a command word (10_state R22, 30_encoding R71), the transmitter's answer
(43_transmit R140) and RST (70_reset_and_hazards R190). -/

namespace Sys2Proof.Machine

/-- A write of v to CMD that is not held: `CMD <- v`, then the operation v encodes, in the same step (10_state R22); a word
that does not decode raises ILLEGAL_COMMAND (30_encoding R71). -/
def acceptCommand (v : Word) (s : State) : Host.Outcome State Fault Refusal :=
  match decodeWord v with
  | .ok i => exec i (setCmd v s)
  | .error _ => .next (raiseErr .illegalCommand (setCmd v s))

/-- A write to a mapped register that is not held (20_memory R55). -/
def writeReg (r : Reg) (v : Word) (s : State) : Host.Outcome State Fault Refusal :=
  match r with
  | .cmd => acceptCommand v s
  | r => .next (storeReg r v s)

/-- The offset an access names. -/
def accessOffset : Access → Nat
  | .read off _ => off
  | .write off _ _ => off

/-- An access is held when it is a well-formed write to a mapped offset and BUSY = 1; reads and refused accesses never are
(20_memory R52, R54, R56). -/
def State.holds (s : State) (a : Access) : Bool :=
  match a with
  | .read _ _ => false
  | .write off w _ => s.busy && (admitted off w).isSome

/-- The effect of an access that is not held: a read gives the register's value, a write is performed, anything not
admitted gets the bus error and changes no state (20_memory R52 to R55). -/
def performAccess (a : Access) (s : State) : Host.Outcome State Fault Refusal :=
  match a with
  | .read off w =>
    match admitted off w with
    | some r => .next (recordBus a (.data (readReg r s)) s)
    | none => .next (recordBus a .busError s)
  | .write off w v =>
    match admitted off w with
    | some r => writeReg r v (recordBus a .done s)
    | none => .next (recordBus a .busError s)

/-- The host's read of STATUS in a pseudo-instruction (30_encoding R78). -/
def statusRead : Access := .read (regOffset .status) .word

/-- The host's turn. With nothing left to run it has no step. A held write keeps its place, and the host takes no step
(20_memory R56). `wait.idle` reads STATUS and stays until BUSY reads 0; `rd STATUS` (stop if ERR != NONE) leaves out the
lines it guards (30_encoding R78; log 17). -/
def hostTurn (s : State) : Host.Outcome State Fault Refusal :=
  match s.host with
  | [] => .next s
  | .access a :: rest =>
    if windowSize ≤ accessOffset a then .fault (.outsideWindow (accessOffset a))
    else if s.holds a then .next s
    else performAccess a (setHost rest s)
  | .waitIdle :: rest =>
    .next (recordBus statusRead (.data s.statusWord) (setHost (if s.busy then s.host else rest) s))
  | .stopIfErr skip :: rest =>
    .next (recordBus statusRead (.data s.statusWord)
      (setHost (if s.err = ErrCode.none.code then rest else rest.drop skip) s))

/-- The transmitter's turn: its only step is to answer the outstanding call, and the core consumes the answer in the same
step (43_transmit R140). With no call outstanding, or no answer given yet, nothing happens (R151). -/
def transmitterTurn (s : State) : State :=
  if s.busy then
    match s.answers with
    | [] => s
    | r :: rest => consumeAnswer r (setAnswers rest s)
  else s

/-- One agent's turn. -/
def takeTurn (t : Turn) (s : State) : Host.Outcome State Fault Refusal :=
  match t with
  | .host => hostTurn s
  | .transmitter => .next (transmitterTurn s)
  | .rst => .next (blockReset s)

/-- `s` with the host about to write `v` to CMD in the very next turn, the sequencer idle so that the write is not held.
On a state with BUSY = 0 and PEND invalid this only adds the access and the turn. -/
def State.presentCommand (s : State) (v : Word) : State :=
  { s with
    txState := .idle
    drain := false
    pend := none
    host := .access (.write (regOffset .cmd) .word v) :: s.host
    schedule := .host :: s.schedule }

end Sys2Proof.Machine
end

