-- ==== Sys2Proof/Machine/Step.lean ====
section
/-! DEFINITION. One step of the model: the next turn of the schedule (00_scope R2; log 6). -/

namespace Sys2Proof.Machine

/-- One step: the agent whose turn is next takes it. With no turn left no agent moves, and the block holds its state
(60_exceptions R184). -/
def step (s : State) : Host.Outcome State Fault Refusal :=
  match s.schedule with
  | [] => .next s
  | t :: rest => takeTurn t (setSchedule rest s)

/-- `s` with the command word of `w` about to be written to CMD by the host in the very next step: where this block takes
its next instruction from (20_memory R62, 30_encoding R70; log 19). -/
def State.withFetchWord (s : State) (nbits w : Nat) : State := s.presentCommand (tableWord nbits w)

end Sys2Proof.Machine
end

