-- ==== Sys2Proof/Machine/Assembler.lean ====
section
/-! DEFINITION. The host's side of 30_encoding R77 and R78: assembler terms and the words they stand for, host program lines,
and the pseudo-instructions with their expansions. Terms, not text (log 22). -/

namespace Sys2Proof.Machine

/-- An assembler command, one constructor a form of R77's table. -/
inductive Command where
  | encPower (on : Bool)
  | encMode (m : Mode)
  | encModeRaw (n : Byte)
  | encTemp (t : Int)
  | encFan (f : FanSpeed)
  | encFanRaw (n : Byte)
  | encPair (a c : Byte)
  | valWord
  | valPulses
  | transmit
  | raw (w : Word)
deriving DecidableEq, Repr

/-- The word of a command (R77). A temperature outside -128..127 has none: a host must not truncate it into B (R75). -/
def assemble : Command → Option Word
  | .encPower on => some (0x01000000 + if on then 1 else 0)
  | .encMode m => some (0x02000000 + (modeCode m).zeroExtend 32)
  | .encModeRaw n => some (0x02000000 + n.zeroExtend 32)
  | .encTemp t => if -128 ≤ t ∧ t ≤ 127 then some (0x03000000 + BitVec.ofInt 32 (t % 256)) else none
  | .encFan f => some (0x04000000 + (fanCode f).zeroExtend 32)
  | .encFanRaw n => some (0x04000000 + n.zeroExtend 32)
  | .encPair a c => some (0x05000000 + (a.zeroExtend 32 <<< 8) + c.zeroExtend 32)
  | .valWord => some 0x06000000
  | .valPulses => some 0x07000000
  | .transmit => some 0x08000000
  | .raw w => some w

/-- `wr OFF, VALUE` (R77). -/
def writeLine (r : Reg) (v : Word) : HostLine := .access (.write (regOffset r) .word v)

/-- `rd OFF` (R77). -/
def readLine (r : Reg) : HostLine := .access (.read (regOffset r) .word)

/-- `cmd <command>` is `wr 0x000, <word of command>` (R77). -/
def commandLine (c : Command) : Option HostLine := (assemble c).map (writeLine .cmd)

/-- The pseudo-instructions of R78. DESIGN CHOICE (log 25): R78 leaves open whether `send.mode` and `send.fan` also take a raw
code `#n` of R77; here they take the listed values only, which are never unknown and need no check of STATUS. -/
inductive Pseudo where
  | waitIdle
  | sendPower (on : Bool)
  | sendMode (m : Mode)
  | sendTemp (t : Int)
  | sendFan (f : FanSpeed)
  | sendPair (a c : Byte)
deriving DecidableEq, Repr

/-- `cmd <command>; cmd transmit; wait.idle` (R78). -/
def sendLines (c : Command) : Option (List HostLine) :=
  (commandLine c).map fun l => [l, writeLine .cmd 0x08000000, .waitIdle]

/-- The expansion of a pseudo-instruction (R78). `send.temp` reads STATUS after the encoding and leaves out its last two
lines when ERR is not NONE. -/
def expand : Pseudo → Option (List HostLine)
  | .waitIdle => some [.waitIdle]
  | .sendPower on => sendLines (.encPower on)
  | .sendMode m => sendLines (.encMode m)
  | .sendTemp t =>
    (commandLine (.encTemp t)).map fun l => [l, .stopIfErr 2, writeLine .cmd 0x08000000, .waitIdle]
  | .sendFan f => sendLines (.encFan f)
  | .sendPair a c => sendLines (.encPair a c)

end Sys2Proof.Machine
end

