-- ==== Sys2Proof/Safety.lean ====
section
/-! DEFINITION. The terms the claims use: results written out from the spec's bit positions and indices, without the
machine's own functions; the invariants of 10_state R39; the shape every call log has (43_transmit R148, R149;
70_reset_and_hazards R193); and which frames may be sent (70 R197). -/

namespace Sys2Proof.Machine

/-- The k-th byte field of a frame: address, inverted address, command, inverted command (R101). -/
def frameField (a c : Byte) : Fin 4 → Byte
  | 0 => a
  | 1 => ~~~a
  | 2 => c
  | 3 => ~~~c

/-- `p` is the frame of (a, c), by R100's ends and R101's indices: bit i of field k is carried by the mark at 2 + 16k + 2i
and the space at 3 + 16k + 2i. -/
def IsFrame (a c : Byte) (p : Pulses) : Prop :=
  p[0] = 9000 ∧ p[1] = 4500 ∧ p[66] = 560 ∧
  ∀ (k : Fin 4) (i : Fin 8),
    p[2 + 16 * k.val + 2 * i.val] = 560 ∧
    p[3 + 16 * k.val + 2 * i.val] = if (frameField a c k).getLsbD i.val then 1690 else 560

/-- PAIR after framing (a, c): VALID in bit 16, CMD in [15:8], ADDR in [7:0] (R31, R104), as a number. -/
def pairRegister (a c : Byte) : Word := BitVec.ofNat 32 (0x10000 + 0x100 * c.toNat + a.toNat)

/-- FRAMEWORD after framing (a, c): { 255 - c, c, 255 - a, a } (R102, R103), as a number. -/
def frameRegister (a c : Byte) : Word :=
  BitVec.ofNat 32 (0x1000000 * (255 - c.toNat) + 0x10000 * c.toNat + 0x100 * (255 - a.toNat) + a.toNat)

/-- `t` is `s` with the frame of (a, c) emitted, and nothing else changed (R104). -/
def Framed (a c : Byte) (s t : State) : Prop :=
  t = { s with
    pair := pairRegister a c
    frameWord := frameRegister a c
    pulse := t.pulse
    frameReady := true
    err := 0x0 } ∧
  IsFrame a c t.pulse

/-- `r` is RXRESULT for a checked word `w` of NEC shape, field by field (R34, R120, R122). -/
def ReportsWord (w r : Word) : Prop :=
  r.extractLsb' 0 8 = w.extractLsb' 0 8 ∧
  r.extractLsb' 8 8 = w.extractLsb' 16 8 ∧
  (r.getLsbD 16 = true ↔ w.extractLsb' 8 8 = ~~~(w.extractLsb' 0 8)) ∧
  (r.getLsbD 17 = true ↔ w.extractLsb' 24 8 = ~~~(w.extractLsb' 16 8)) ∧
  r.getLsbD 18 = true ∧
  r.getLsbD 19 = (r.getLsbD 16 && r.getLsbD 17) ∧
  r.extractLsb' 20 12 = 0

/-- `p` has the shape of a NEC frame, by exact values (R121). -/
def HasNecShape (p : Pulses) : Prop :=
  p[0] = 9000 ∧ p[1] = 4500 ∧ p[66] = 560 ∧
  ∀ n : Fin 32, p[2 + 2 * n.val] = 560 ∧ (p[3 + 2 * n.val] = 560 ∨ p[3 + 2 * n.val] = 1690)

/-- `w` is the word the spaces of `p` spell, bit n from the space at 3 + 2n (R121). -/
def SpellsWord (p : Pulses) (w : Word) : Prop :=
  ∀ n : Fin 32, (w.getLsbD n.val = true ↔ p[3 + 2 * n.val] = 1690)

/-- The host's next turn issues `a`, with `q` and `sch` to follow. -/
def State.issues (s : State) (a : Access) (q : List HostLine) (sch : List Turn) : Prop :=
  s.schedule = .host :: sch ∧ s.host = .access a :: q

/-- `s` once the host's access `a` has completed with response `r`: the turn and the line are taken and the access is on
record; the block is untouched. -/
def State.completed (s : State) (a : Access) (r : BusResponse) (q : List HostLine) (sch : List Turn) : State :=
  { s with schedule := sch, host := q, busLog := s.busLog ++ [⟨a, r⟩] }

/-- The transmitter's next turn answers `r`, with `as` and `sch` to follow. -/
def State.answersNext (s : State) (r : Response) (as : List Response) (sch : List Turn) : Prop :=
  s.schedule = .transmitter :: sch ∧ s.answers = r :: as

/-- Every access left in the host's program lies in the 4 KiB window (20_memory R50). -/
def State.hostInWindow (s : State) : Prop :=
  ∀ l ∈ s.host, match l with
    | .access a => accessOffset a < windowSize
    | .waitIdle => True
    | .stopIfErr _ => True

/-- `n` host turns, then the transmitter's, then `sch`. -/
def hostTurnsThenAnswer (n : Nat) (sch : List Turn) : List Turn := List.replicate n .host ++ .transmitter :: sch

/-- PEND after Record(e, k) of R147: the first error is kept, and none while DRAIN = 1. -/
def State.pendAfter (s : State) (r : Response) (k : BitVec 2) : Option Pend :=
  match r with
  | .ok => s.pend
  | .err e => if s.drain = false ∧ s.pend = none then some ⟨Config.hwErrEncoding e, k⟩ else s.pend

/-- STATUS.ERR and HWERR of a finished TRANSMIT whose first failing call was step `k` with error `e`, if any (R149). -/
def State.reports (t : State) (first : Option (HardwareError × Nat)) : Prop :=
  match first with
  | none => t.err = 0x0 ∧ t.hwErr = 0
  | some (e, k) => t.err = 0x5 ∧ t.hwErr.toNat = 0x100 * k + (Config.hwErrEncoding e).toNat

/-- The first failing call among steps `k`, `k + 1`, … with these responses. -/
def firstFailure : Nat → List Response → Option (HardwareError × Nat)
  | _, [] => none
  | k, .ok :: rs => firstFailure (k + 1) rs
  | k, .err e :: _ => some (e, k)

/-- How often a call stands in a log. -/
def callCount (log : List LogEntry) (c : Call) : Nat := log.countP fun e => e == .call c

/-- The pulse trains handed over in a log, oldest first. -/
def sentTrains (log : List LogEntry) : List Pulses :=
  log.filterMap fun e => match e with
    | .call (.sendPulses p) => some p
    | _ => none

/-- A block just powered on, with any host program, any answers of the transmitter and any order of turns. -/
def poweredOn (host : List HostLine) (answers : List Response) (schedule : List Turn) : State :=
  { State.reset with host := host, answers := answers, schedule := schedule }

/-- While FRAME_READY = 1 the buffer, PAIR and FRAMEWORD hold one and the same encoder frame (R39 c, R25). -/
def State.frameCoherent (s : State) : Prop :=
  s.frameReady = true →
    s.pairValid = true ∧ s.frameWord = frameWordOf s.pairAddr s.pairCmd ∧ s.pulse = necFrame s.pairAddr s.pairCmd

/-- PAIR.VALID = 1 means FRAMEWORD is the frame word of PAIR (R39 d). -/
def State.pairCoherent (s : State) : Prop :=
  s.pairValid = true → s.frameWord = frameWordOf s.pairAddr s.pairCmd

/-- The reserved bits of the stored registers are 0: PAIR [31:17], RXRESULT [31:20], HWERR [31:10] (R39 f). -/
def State.reservedZero (s : State) : Prop :=
  s.pair &&& 0xFFFE0000 = 0 ∧ s.rxResult &&& 0xFFF00000 = 0 ∧ s.hwErr &&& 0xFFFFFC00 = 0

/-- STATUS.ERR is never 0x6 to 0xF (R39 g). -/
def State.errLegal (s : State) : Prop := s.err ≤ 0x5#4

/-- The sequencer's own fields while it is idle and while it runs: DRAIN = 1 only while BUSY (R39 b); PEND valid only while
BUSY with DRAIN = 0 (R37, R147); CARRIER_ON = 1, ERR = NONE and HWERR = 0 while BUSY (R26, R152). -/
def State.sequencerCoherent (s : State) : Prop :=
  (s.drain = true → s.busy = true) ∧
  (s.pend ≠ none → s.busy = true ∧ s.drain = false) ∧
  (s.busy = true → s.carrierOn = true ∧ s.err = ErrCode.none.code ∧ s.hwErr = 0)

/-- Every reachable state's registers (R39, with R37 and R152). -/
def State.registersCoherent (s : State) : Prop :=
  s.frameCoherent ∧ s.pairCoherent ∧ s.reservedZero ∧ s.errLegal ∧ s.sequencerCoherent

/-- How far the log of calls has come in the transmission it records: between transmissions, awaiting the answer to one of
the three calls, or just answered and owing the next call. -/
inductive CallPhase where
  | quiet
  | carrierOnOut
  | carrierOnOk
  | carrierOnFailed
  | sendOut
  | sendAnswered
  | carrierOffOut
deriving DecidableEq, Repr

/-- One entry of a call log, by the rows of R149 and R193's drain (after an Ok carrier-on, a drained transmission goes
straight to carrier-off); none when no rule allows the entry there. -/
def callPhaseNext (p : CallPhase) (e : LogEntry) : Option CallPhase :=
  match p, e with
  | .quiet, .call (.setCarrier 38000 500) => some .carrierOnOut
  | .carrierOnOut, .answer .ok => some .carrierOnOk
  | .carrierOnOut, .answer (.err _) => some .carrierOnFailed
  | .carrierOnOk, .call (.sendPulses _) => some .sendOut
  | .carrierOnOk, .call (.setCarrier 0 0) => some .carrierOffOut
  | .carrierOnFailed, .call (.setCarrier 0 0) => some .carrierOffOut
  | .sendOut, .answer _ => some .sendAnswered
  | .sendAnswered, .call (.setCarrier 0 0) => some .carrierOffOut
  | .carrierOffOut, .answer _ => some .quiet
  | _, _ => none

/-- The phase a whole call log has come to, none when some entry is not allowed where it stands. -/
def callPhase (log : List LogEntry) : Option CallPhase := log.foldlM callPhaseNext .quiet

/-- The phase that belongs to a sequencer state (10_state R28). -/
def phaseOf : TxState → CallPhase
  | .idle => .quiet
  | .waitCarrierOn => .carrierOnOut
  | .waitSend => .sendOut
  | .waitCarrierOff => .carrierOffOut

/-- The call log is a sequence of whole transmissions, and one unfinished one exactly when TXSTATE says so. -/
def State.callLogLegal (s : State) : Prop := callPhase s.callLog = some (phaseOf s.txState)

/-- Every pulse train ever sent is an encoder frame (70 R197). -/
def State.onlyFramesSent (s : State) : Prop :=
  ∀ p, LogEntry.call (.sendPulses p) ∈ s.callLog → ∃ a c, p = necFrame a c

/-- While carrier-on is awaited with DRAIN = 0, the buffer holds an encoder frame, the one to be sent (R142, R64). -/
def State.sendReady (s : State) : Prop :=
  s.txState = .waitCarrierOn → s.drain = false → s.frameReady = true

end Sys2Proof.Machine
end

