-- ==== Sys2Proof/Certificates/Slice0/Obligations.lean ====
section
/-! DEFINITION. The statements for the provers, in the order of spec/: reset and encoding, the step and the bus, the eight
operations, the frame and the validator, the sequencer, RST, the invariants, the assembler. -/

open Sys2Proof Sys2Proof.Machine

/-! ## Reset and encoding -/

/-- 70_reset_and_hazards R191: every element after POR, and no outstanding call. -/
def Obligations.ResetValues : Prop :=
  readReg .cmd State.reset = 0x00000000 ∧ readReg .status State.reset = 0x00000000 ∧
  (∀ k : Fin 67, State.reset.pulse[k.val] = 0) ∧
  readReg .pair State.reset = 0x00000000 ∧ readReg .frameWord State.reset = 0x00000000 ∧
  readReg .rxWord State.reset = 0x00000000 ∧ readReg .rxResult State.reset = 0x00000000 ∧
  readReg .hwErr State.reset = 0x00000000 ∧ readReg .carrier State.reset = 0x01F49470 ∧
  State.reset.busy = false ∧ State.reset.frameReady = false ∧ State.reset.carrierOn = false ∧
  State.reset.drain = false ∧ State.reset.txState = .idle ∧ State.reset.err = 0x0 ∧
  State.reset.pend = none ∧ State.reset.outstanding = none ∧ State.reset.callLog = []

/-- Words written out from R72 and R77 decode to the operations they stand for. -/
def Obligations.DecodesWrittenOutWords : Prop :=
  decodeWord 0x01000001 = .ok (.encPower 0x01) ∧ decodeWord 0x02000004 = .ok (.encMode 0x04) ∧
  decodeWord 0x0300001E = .ok (.encTemp 0x1E) ∧ decodeWord 0x04000002 = .ok (.encFan 0x02) ∧
  decodeWord 0x0500A55A = .ok (.encPair 0xA5 0x5A) ∧ decodeWord 0x06000000 = .ok .validateWord ∧
  decodeWord 0x07000000 = .ok .validatePulses ∧ decodeWord 0x08000000 = .ok .transmit

/-- Decoding the word, or the four byte lanes, of a well-formed instruction gives it back. -/
def Obligations.DecodeEncodeRoundTrip : Prop :=
  ∀ i : Instr, i.wellFormed = true →
    decodeWord (encode i) = .ok i ∧ ∀ rest, decode (laneBytes (encode i) ++ rest) = .ok (i, rest)

/-- A word that decodes is the encoding of the well-formed instruction it decodes to: no other word does. -/
def Obligations.EncodeDecodeRoundTrip : Prop :=
  ∀ (w : Word) (i : Instr), decodeWord w = .ok i → i.wellFormed = true ∧ encode i = w

/-- 30_encoding R72: a word is well-formed with an opcode exactly when it agrees with that row's match under its mask, and
its operands are then B[0], B, or A and B. -/
def Obligations.DecodeFollowsMatchMask : Prop :=
  ∀ w : Word,
    (w &&& 0xFFFFFFFE = 0x01000000 ↔ ∃ b, decodeWord w = .ok (.encPower b) ∧ b = w.extractLsb' 0 8 ∧ b ≤ 1) ∧
    (w &&& 0xFFFFFF00 = 0x02000000 ↔ decodeWord w = .ok (.encMode (w.extractLsb' 0 8))) ∧
    (w &&& 0xFFFFFF00 = 0x03000000 ↔ decodeWord w = .ok (.encTemp (w.extractLsb' 0 8))) ∧
    (w &&& 0xFFFFFF00 = 0x04000000 ↔ decodeWord w = .ok (.encFan (w.extractLsb' 0 8))) ∧
    (w &&& 0xFFFF0000 = 0x05000000 ↔ decodeWord w = .ok (.encPair (w.extractLsb' 8 8) (w.extractLsb' 0 8))) ∧
    (w &&& 0xFFFFFFFF = 0x06000000 ↔ decodeWord w = .ok .validateWord) ∧
    (w &&& 0xFFFFFFFF = 0x07000000 ↔ decodeWord w = .ok .validatePulses) ∧
    (w &&& 0xFFFFFFFF = 0x08000000 ↔ decodeWord w = .ok .transmit)

/-- 30_encoding R71: a word that fails a check raises ILLEGAL_COMMAND (0x3) and does nothing else but set CMD; every other
word is dispatched by its opcode with (a, b). -/
def Obligations.EveryWordDispatchesOrRaises : Prop :=
  ∀ (w : Word) (s : State),
    let op := (w >>> 24).toNat
    let rsv := (w >>> 16).toNat % 256
    let a : Byte := w.extractLsb' 8 8
    let b : Byte := w.extractLsb' 0 8
    let illegal := op < 1 ∨ 8 < op ∨ rsv ≠ 0 ∨ (op ≠ 5 ∧ a ≠ 0) ∨ (op = 1 ∧ 1 < b.toNat) ∨ (6 ≤ op ∧ b ≠ 0)
    (illegal → acceptCommand w s = .next { s with cmd := w, err := 0x3 }) ∧
    (¬ illegal →
      ∀ p ∈ [(1, Instr.encPower b), (2, .encMode b), (3, .encTemp b), (4, .encFan b), (5, .encPair a b),
          (6, .validateWord), (7, .validatePulses), (8, .transmit)],
        op = p.1 → acceptCommand w s = exec p.2 { s with cmd := w })

/-! ## The step and the bus -/

/-- When the word the host writes to CMD decodes to i and BUSY = 0, the step is exec of i, on the state in which the turn
and the access are taken, the access is on record, and CMD holds the word. A word that does not decode raises
ILLEGAL_COMMAND there. -/
def Obligations.StepRunsDecodedCommand : Prop :=
  ∀ (s : State) (w : Word) (q : List HostLine) (sch : List Turn),
    s.issues (.write 0x000 .word w) q sch → s.busy = false →
    (∀ i, decodeWord w = .ok i →
      step s = exec i { s.completed (.write 0x000 .word w) .done q sch with cmd := w }) ∧
    (∀ e, decodeWord w = .error e →
      step s = .next { s.completed (.write 0x000 .word w) .done q sch with cmd := w, err := 0x3 })

/-- 20_memory R54: a read of a mapped offset returns the register's current value, reserved bits 0, and changes no state, in
every state, while BUSY = 1 too. -/
def Obligations.ReadsReturnRegisters : Prop :=
  ∀ (s : State) (r : Reg) (q : List HostLine) (sch : List Turn),
    s.issues (.read (regOffset r) .word) q sch →
    ∃ v, step s = .next (s.completed (.read (regOffset r) .word) (.data v) q sch) ∧
      match r with
      | .cmd => v = s.cmd
      | .status => v.toNat = 0x100 * s.err.toNat + 0x10 * s.txState.code.toNat + 8 * s.drain.toNat
          + 4 * s.carrierOn.toNat + 2 * s.frameReady.toNat + s.busy.toNat
      | .pair => (∀ i, i < 17 → v.getLsbD i = s.pair.getLsbD i) ∧ ∀ i, 17 ≤ i → v.getLsbD i = false
      | .frameWord => v = s.frameWord
      | .rxWord => v = s.rxWord
      | .rxResult => (∀ i, i < 20 → v.getLsbD i = s.rxResult.getLsbD i) ∧ ∀ i, 20 ≤ i → v.getLsbD i = false
      | .hwErr => (∀ i, i < 10 → v.getLsbD i = s.hwErr.getLsbD i) ∧ ∀ i, 10 ≤ i → v.getLsbD i = false
      | .carrier => v = 0x01F49470
      | .pulse k => v.toNat = s.pulse[k.val].toNat

/-- 10_state R23: the fields of STATUS, its reserved bits, and that a host write to it is ignored. -/
def Obligations.StatusWordLayout : Prop :=
  ∀ s : State,
    let v := readReg .status s
    (v.getLsbD 0 = true ↔ s.txState ≠ .idle) ∧ v.getLsbD 1 = s.frameReady ∧ v.getLsbD 2 = s.carrierOn ∧
    v.getLsbD 3 = s.drain ∧ v.extractLsb' 4 2 = s.txState.code ∧ v.extractLsb' 6 2 = 0 ∧
    v.extractLsb' 8 4 = s.err ∧ v.extractLsb' 12 20 = 0 ∧ ∀ x, writeReg .status x s = .next s

/-- 10_state R36: CARRIER reads 0x01F49470 in every state, FREQ_HZ 38000 in [15:0] and DUTY_PERMILLE 500 in [31:16], and
these are what the sequencer hands over. -/
def Obligations.CarrierRegisterConstant : Prop :=
  ∀ s : State,
    readReg .carrier s = 0x01F49470 ∧ ((readReg .carrier s).extractLsb' 0 16).toNat = 38000 ∧
    ((readReg .carrier s).extractLsb' 16 16).toNat = 500 ∧
    (startTransmit s).outstanding =
      some (.setCarrier ((readReg .carrier s).extractLsb' 0 16).toNat ((readReg .carrier s).extractLsb' 16 16).toNat)

/-- 20_memory R55: what a write that is not held does, by offset, at the step. -/
def Obligations.WritesActByOffset : Prop :=
  ∀ (s : State) (off : Nat) (v : Word) (q : List HostLine) (sch : List Turn),
    s.issues (.write off .word v) q sch → s.busy = false →
    let s' := s.completed (.write off .word v) .done q sch
    (off = 0x000 → step s = acceptCommand v s' ∧ ∃ t, step s = .next t ∧ t.cmd = v) ∧
    (off = 0x010 → step s = .next { s' with rxWord := v }) ∧
    (∀ k : Fin 67, off = 0x100 + 4 * k.val →
      step s = .next { s' with pulse := s.pulse.set k.val (v.extractLsb' 0 16), frameReady := false }) ∧
    (off ∈ [0x004, 0x008, 0x00C, 0x014, 0x018, 0x01C] → step s = .next s')

/-- 20_memory R52, R53: an access of another width, at an offset that is no multiple of 4, or at an unmapped offset gets the
bus error at once, while BUSY = 1 too, and changes no state. -/
def Obligations.RefusedAccessesChangeNothing : Prop :=
  ∀ (s : State) (a : Access) (off : Nat) (wd : AccessWidth) (q : List HostLine) (sch : List Turn),
    (a = .read off wd ∨ ∃ v, a = .write off wd v) → off < 0x1000 →
    (wd ≠ .word ∨ off % 4 ≠ 0 ∨ (0x020 ≤ off ∧ off ≤ 0x0FC) ∨ 0x20C ≤ off) →
    s.issues a q sch → step s = .next (s.completed a .busError q sch)

/-- 20_memory R56: while BUSY = 1 a write to a mapped offset keeps its place and has no effect, and so it stays through any
number of host turns. -/
def Obligations.BusyHoldsWrites : Prop :=
  ∀ (n : Nat) (s : State) (r : Reg) (v : Word) (q : List HostLine) (sch : List Turn),
    s.busy = true → s.schedule = List.replicate n .host ++ sch →
    s.host = .access (.write (regOffset r) .word v) :: q →
    Host.Core.run Sys2Proof.core n s = .next { s with schedule := sch }

/-- 43_transmit R150, 20_memory R64: nothing the host does while BUSY = 1 changes the block, the buffer included. -/
def Obligations.HostCannotDisturbTransmission : Prop :=
  ∀ (s t : State) (sch : List Turn),
    s.busy = true → s.schedule = .host :: sch → step s = .next t →
    t = { s with schedule := sch, host := t.host, busLog := t.busLog }

/-- An access outside the 4 KiB window is no access to this block: the model's fault (log 9). -/
def Obligations.OutsideWindowFaults : Prop :=
  ∀ (s : State) (off : Nat) (wd : AccessWidth) (v : Word) (a : Access) (q : List HostLine) (sch : List Turn),
    (a = .read off wd ∨ a = .write off wd v) → 0x1000 ≤ off → s.issues a q sch →
    step s = .fault (.outsideWindow off)

/-- 00_scope R5, 20_memory R50: the window is the 4096 bytes from BLOCK_BASE, wherever that is. -/
def Obligations.WindowStartsAtBlockBase : Prop :=
  (∀ off, off < 0x1000 → windowOffset? (Config.blockBase + off) = some off) ∧
  (∀ off, 0x1000 ≤ off → windowOffset? (Config.blockBase + off) = none) ∧
  (∀ n, n < Config.blockBase → windowOffset? n = none)

/-- 20_memory R57: byte lane j of a register carries bits [8j + 7 : 8j], and an unmapped byte has none. -/
def Obligations.LittleEndianLanes : Prop :=
  ∀ s : State,
    (∀ (r : Reg) (j : Fin 4), s.windowByte? (regOffset r + j.val) = some ((readReg r s).extractLsb' (8 * j.val) 8)) ∧
    (∀ off, (0x020 ≤ off ∧ off ≤ 0x0FF) ∨ 0x20C ≤ off → s.windowByte? off = none)

/-! ## The eight operations -/

/-- ENC_POWER completes for every B: CMD 0x08 for B[0] = 1 and 0x09 for B[0] = 0, framed with address 0x00, nothing else
changed (40_intent_mapper R91 in the default build). -/
def Obligations.EncPowerFramesCommand : Prop :=
  ∀ (b : Byte) (s : State),
    ∃ t, exec (.encPower b) s = .next t ∧ Framed 0x00 (if b.getLsbD 0 then 0x08 else 0x09) s t

/-- ENC_MODE: codes 0..4 frame 0x30..0x34 with address 0x00, codes 5..255 record UNKNOWN_ENUM (0x2) and change nothing else
(40_intent_mapper R92 in the default build). -/
def Obligations.EncModeFramesOrRejects : Prop :=
  ∀ (m : Byte) (s : State),
    (m.toNat < 5 → ∃ t, exec (.encMode m) s = .next t ∧ Framed 0x00 (BitVec.ofNat 8 (0x30 + m.toNat)) s t) ∧
    (5 ≤ m.toNat → exec (.encMode m) s = .next { s with err := 0x2 })

/-- ENC_TEMP: B as a signed byte t, 16..30 frames 0x10 + (t - 16) with address 0x00, every other t records OUT_OF_RANGE (0x1)
and changes nothing else (40_intent_mapper R93 in the default build). -/
def Obligations.EncTempFramesOrRejects : Prop :=
  ∀ (b : Byte) (s : State),
    (16 ≤ b.toInt ∧ b.toInt ≤ 30 →
      ∃ (c : Byte) (t : State), (c.toNat : Int) = 0x10 + (b.toInt - 16) ∧ exec (.encTemp b) s = .next t ∧ Framed 0x00 c s t) ∧
    (b.toInt < 16 ∨ 30 < b.toInt → exec (.encTemp b) s = .next { s with err := 0x1 })

/-- ENC_FAN: codes 0..3 frame 0x40..0x43 with address 0x00, codes 4..255 record UNKNOWN_ENUM (0x2) and change nothing else
(40_intent_mapper R94 in the default build). -/
def Obligations.EncFanFramesOrRejects : Prop :=
  ∀ (f : Byte) (s : State),
    (f.toNat < 4 → ∃ t, exec (.encFan f) s = .next t ∧ Framed 0x00 (BitVec.ofNat 8 (0x40 + f.toNat)) s t) ∧
    (4 ≤ f.toNat → exec (.encFan f) s = .next { s with err := 0x2 })

/-- ENC_PAIR completes for every pair and frames its own address and command, nothing else changed (41 R105). -/
def Obligations.EncPairFramesOperands : Prop :=
  ∀ (a c : Byte) (s : State), ∃ t, exec (.encPair a c) s = .next t ∧ Framed a c s t

/-- VALIDATE_WORD completes in every state: RXRESULT reports RXWORD, ERR is NONE, nothing else changed (42 R122). -/
def Obligations.ValidateWordReports : Prop :=
  ∀ s : State, ∃ r, exec .validateWord s = .next { s with rxResult := r, err := 0x0 } ∧ ReportsWord s.rxWord r

/-- VALIDATE_PULSES completes in every state: a buffer of NEC shape is decoded into RXWORD and reported; any other gives
RXRESULT 0 and leaves RXWORD; ERR is NONE, nothing else changed (42 R123). -/
def Obligations.ValidatePulsesReports : Prop :=
  ∀ s : State,
    (HasNecShape s.pulse → ∃ w r, exec .validatePulses s = .next { s with rxWord := w, rxResult := r, err := 0x0 } ∧
      SpellsWord s.pulse w ∧ ReportsWord w r) ∧
    (¬ HasNecShape s.pulse → exec .validatePulses s = .next { s with rxResult := 0x00000000, err := 0x0 })

/-- TRANSMIT with a ready frame is Start() of 43_transmit R143; without one it records NO_FRAME (0x4), no call is made and
nothing else changes (R142). -/
def Obligations.TransmitStartsOrRejects : Prop :=
  ∀ s : State,
    (s.frameReady = true → exec .transmit s = .next
      { s with
        err := 0x0
        hwErr := 0x00000000
        pend := none
        carrierOn := true
        txState := .waitCarrierOn
        callLog := s.callLog ++ [.call (.setCarrier 38000 500)] }) ∧
    (s.frameReady = false → exec .transmit s = .next { s with err := 0x4 })

/-- The bytes of the register window an operation leaves alone, read one by one: all but those of STATUS and, by operation,
PAIR, FRAMEWORD and the pulse buffer (encoders), RXRESULT (validators), RXWORD (VALIDATE_PULSES), HWERR (TRANSMIT). -/
def Obligations.WindowBytesFrame : Prop :=
  ∀ (i : Instr) (s : State), ∃ t, exec i s = .next t ∧
    ∀ off : Nat, ¬ (0x004 ≤ off ∧ off < 0x008) →
      (match i with
        | .encPower _ => ¬ (0x008 ≤ off ∧ off < 0x010) ∧ ¬ (0x100 ≤ off ∧ off < 0x20C)
        | .encMode _ => ¬ (0x008 ≤ off ∧ off < 0x010) ∧ ¬ (0x100 ≤ off ∧ off < 0x20C)
        | .encTemp _ => ¬ (0x008 ≤ off ∧ off < 0x010) ∧ ¬ (0x100 ≤ off ∧ off < 0x20C)
        | .encFan _ => ¬ (0x008 ≤ off ∧ off < 0x010) ∧ ¬ (0x100 ≤ off ∧ off < 0x20C)
        | .encPair _ _ => ¬ (0x008 ≤ off ∧ off < 0x010) ∧ ¬ (0x100 ≤ off ∧ off < 0x20C)
        | .validateWord => ¬ (0x014 ≤ off ∧ off < 0x018)
        | .validatePulses => ¬ (0x010 ≤ off ∧ off < 0x018)
        | .transmit => ¬ (0x018 ≤ off ∧ off < 0x01C)) →
      t.windowByte? off = s.windowByte? off

/-- 00_scope R4, 40_intent_mapper R90 to R94, for ANY build that meets R4's constraint: the intent operations frame that
build's command bytes with its DEV_ADDR, and TEMP_BASE + (t - 16) does not wrap. -/
def Obligations.BuildParametersRespected : Prop :=
  ∀ (bld : Build) (s : State), bld.wf →
    (∀ b : Byte, Framed bld.devAddr (if b.getLsbD 0 then bld.cmdPowerOn else bld.cmdPowerOff) s (encPowerFor bld b s)) ∧
    (∀ p ∈ [((0 : Byte), bld.cmdModeCool), (1, bld.cmdModeHeat), (2, bld.cmdModeFan), (3, bld.cmdModeDry),
        (4, bld.cmdModeAuto)], Framed bld.devAddr p.2 s (encModeFor bld p.1 s)) ∧
    (∀ m : Byte, 5 ≤ m.toNat → encModeFor bld m s = { s with err := 0x2 }) ∧
    (∀ b : Byte, 16 ≤ b.toInt → b.toInt ≤ 30 →
      ∃ c : Byte, (c.toNat : Int) = bld.tempBase.toNat + (b.toInt - 16) ∧ Framed bld.devAddr c s (encTempFor bld b s)) ∧
    (∀ b : Byte, b.toInt < 16 ∨ 30 < b.toInt → encTempFor bld b s = { s with err := 0x1 }) ∧
    (∀ p ∈ [((0 : Byte), bld.cmdFanLow), (1, bld.cmdFanMedium), (2, bld.cmdFanHigh), (3, bld.cmdFanAuto)],
      Framed bld.devAddr p.2 s (encFanFor bld p.1 s)) ∧
    (∀ f : Byte, 4 ≤ f.toNat → encFanFor bld f s = { s with err := 0x2 })

/-- 41_frame_generator R104: EmitFrame writes PAIR, FRAMEWORD, all 67 entries, FRAME_READY and ERR, and nothing else, for
every pair. -/
def Obligations.EmitFrameCommits : Prop :=
  ∀ (a c : Byte) (s : State), Framed a c s (emitFrame a c s)

/-- 60_exceptions R171, 40_intent_mapper R96: an accepted command that ends with an error code changes CMD and STATUS.ERR
and nothing else; no call is issued. -/
def Obligations.ErrorsChangeOnlyCmdAndErr : Prop :=
  ∀ (w : Word) (s t : State),
    acceptCommand w s = .next t → t.err ≠ 0x0 → t = { s with cmd := w, err := t.err } ∧ t.err ≤ 0x4#4

/-- 20_memory R59: reads change nothing; a second equal write to RXWORD or PULSE[k] changes nothing more; a command word run
twice leaves what it left once, but for TRANSMIT, each accepted one of which issues its own call. -/
def Obligations.AccessesAreIdempotent : Prop :=
  (∀ (s : State) (off : Nat) (wd : AccessWidth), ∃ r, performAccess (.read off wd) s = .next (recordBus (.read off wd) r s)) ∧
  (∀ (s : State) (r : Reg) (v : Word), storeReg r v (storeReg r v s) = storeReg r v s) ∧
  (∀ (s t : State) (w : Word), w ≠ 0x08000000 → acceptCommand w s = .next t → acceptCommand w t = .next t) ∧
  (∀ (s : State), s.frameReady = true →
    ∃ t, acceptCommand 0x08000000 s = .next t ∧ t.callLog = s.callLog ++ [.call (.setCarrier 38000 500)])

/-! ## The frame and the validator -/

/-- 41_frame_generator R106: the shape of every frame. -/
def Obligations.FrameShape : Prop :=
  ∀ a c : Byte,
    (necFrame a c).toList.length = 67 ∧ (necFrame a c)[0] = 9000 ∧ (necFrame a c)[1] = 4500 ∧
    (∀ (k : Nat) (h : k < 67), k % 2 = 0 → 2 ≤ k → (necFrame a c)[k] = 560) ∧
    (∀ (k : Nat) (h : k < 67), k % 2 = 1 → 3 ≤ k → (necFrame a c)[k] = 560 ∨ (necFrame a c)[k] = 1690)

/-- 41_frame_generator R100, R101: the order of the fields and of the bits, both as the six-item concatenation and by
index. -/
def Obligations.FrameBitOrder : Prop :=
  (∀ b : Byte, bitPulses b =
    [560, if b.getLsbD 0 then 1690 else 560, 560, if b.getLsbD 1 then 1690 else 560,
     560, if b.getLsbD 2 then 1690 else 560, 560, if b.getLsbD 3 then 1690 else 560,
     560, if b.getLsbD 4 then 1690 else 560, 560, if b.getLsbD 5 then 1690 else 560,
     560, if b.getLsbD 6 then 1690 else 560, 560, if b.getLsbD 7 then 1690 else 560]) ∧
  ∀ a c : Byte,
    (necFrame a c).toList =
      [9000, 4500] ++ bitPulses a ++ bitPulses (~~~a) ++ bitPulses c ++ bitPulses (~~~c) ++ [560] ∧
    IsFrame a c (necFrame a c)

/-- 41_frame_generator R107: 16 one-bits, 16 zero-bits, and durations that sum to 67980. -/
def Obligations.FrameDurationConstant : Prop :=
  ∀ a c : Byte,
    (List.finRange 32).countP (fun n : Fin 32 => (necFrame a c)[3 + 2 * n.val] == 1690) = 16 ∧
    (List.finRange 32).countP (fun n : Fin 32 => (necFrame a c)[3 + 2 * n.val] == 560) = 16 ∧
    ((necFrame a c).toList.map BitVec.toNat).sum = 67980

/-- 41_frame_generator R108: two pairs with one frame are one pair. -/
def Obligations.FrameDeterminesPair : Prop :=
  ∀ a c a' c' : Byte, necFrame a c = necFrame a' c' → a = a' ∧ c = c'

/-- 41_frame_generator R102: bit 8k + i of the frame word is the bit the space at 3 + 16k + 2i carries, and the word's bytes
are { Cpl(c), c, Cpl(a), a }. -/
def Obligations.FrameWordPacking : Prop :=
  ∀ a c : Byte,
    frameWordOf a c = frameRegister a c ∧
    ∀ (k : Fin 4) (i : Fin 8),
      (frameWordOf a c).getLsbD (8 * k.val + i.val) = (frameField a c k).getLsbD i.val ∧
      ((frameWordOf a c).getLsbD (8 * k.val + i.val) = true ↔ (necFrame a c)[3 + 16 * k.val + 2 * i.val] = 1690)

/-- 41_frame_generator R103: the one's complement of a byte and its consequences. -/
def Obligations.ComplementOfByte : Prop :=
  (∀ b : Byte, cpl b = ~~~b &&& 0xFF ∧ cpl (cpl b) = b ∧ b ^^^ cpl b = 0xFF ∧ b.toNat + (cpl b).toNat = 255 ∧ cpl b ≠ b) ∧
  cpl 0x00 = 0xFF ∧ cpl 0xFF = 0x00

/-- 42_complement_validator R120: what ComplementCheck tells, and that it passes every frame word. -/
def Obligations.ComplementCheckExact : Prop :=
  (∀ w : Word,
    (addrOk w = true ↔ w.extractLsb' 0 8 ^^^ w.extractLsb' 8 8 = (0xFF : Byte)) ∧
    (cmdOk w = true ↔ w.extractLsb' 16 8 ^^^ w.extractLsb' 24 8 = (0xFF : Byte)) ∧
    (addrOk w = true ↔ w.extractLsb' 8 8 = cpl (w.extractLsb' 0 8)) ∧
    (cmdOk w = true ↔ w.extractLsb' 24 8 = cpl (w.extractLsb' 16 8))) ∧
  ∀ a c : Byte, addrOk (frameWordOf a c) = true ∧ cmdOk (frameWordOf a c) = true

/-- 42_complement_validator R121: DecodePulses accepts exactly the NEC shape, spells the word from the spaces, and gives 0
otherwise. -/
def Obligations.DecodePulsesExact : Prop :=
  ∀ p : Pulses,
    ((decodePulses p).1 = true ↔ HasNecShape p) ∧
    (HasNecShape p → SpellsWord p (decodePulses p).2) ∧
    (¬ HasNecShape p → (decodePulses p).2 = 0)

/-- 42_complement_validator R124: decoding an encoder frame gives its frame word, and VALIDATE_PULSES on a buffer that holds
one sets VALID with its address and command. -/
def Obligations.ValidatorRoundTrip : Prop :=
  ∀ a c : Byte,
    decodePulses (necFrame a c) = (true, frameWordOf a c) ∧
    ∀ s : State, s.pulse = necFrame a c →
      ∃ t, exec .validatePulses s = .next t ∧ t.rxResult.getLsbD 19 = true ∧
        t.rxResult.extractLsb' 0 8 = a ∧ t.rxResult.extractLsb' 8 8 = c ∧ t.rxWord = frameRegister a c

/-- 42_complement_validator R125: the spaces 19, 21, …, 33 spell the complement of the address, and 51, 53, …, 65 that of
the command, LSB first. -/
def Obligations.InvertedFieldsSpellComplement : Prop :=
  ∀ (b x : Byte) (i : Fin 8),
    ((cpl b).getLsbD i.val = true ↔ (necFrame b x)[19 + 2 * i.val] = 1690) ∧
    ((cpl b).getLsbD i.val = true ↔ (necFrame x b)[51 + 2 * i.val] = 1690)

/-- 42_complement_validator R126: one flipped space in a frame makes exactly one check fail; the same flip in a byte field
and its complement field is not detected; any other wrong duration loses the shape. -/
def Obligations.ValidatorDetection : Prop :=
  ∀ a c : Byte,
    let flip : Duration → Duration := fun d => if d = 560 then 1690 else 560
    let f := necFrame a c
    (∀ n : Fin 32,
      let p := f.set (3 + 2 * n.val) (flip f[3 + 2 * n.val])
      (decodePulses p).1 = true ∧ addrOk (decodePulses p).2 ≠ cmdOk (decodePulses p).2) ∧
    (∀ (h : Fin 2) (i : Fin 8),
      let p := (f.set (3 + 32 * h.val + 2 * i.val) (flip f[3 + 32 * h.val + 2 * i.val])).set
        (19 + 32 * h.val + 2 * i.val) (flip f[19 + 32 * h.val + 2 * i.val])
      (decodePulses p).1 = true ∧ addrOk (decodePulses p).2 = true ∧ cmdOk (decodePulses p).2 = true) ∧
    (∀ (k : Fin 67) (d : Duration), d ≠ f[k.val] →
      (k.val % 2 = 0 ∨ k.val = 1 ∨ (d ≠ 560 ∧ d ≠ 1690)) → (decodePulses (f.set k.val d)).1 = false)

/-! ## The transmit sequencer -/

/-- 43_transmit R144: the response in WAIT_CARRIER_ON. -/
def Obligations.CarrierOnAnswered : Prop :=
  ∀ (s : State) (r : Response) (as : List Response) (sch : List Turn),
    s.txState = .waitCarrierOn → s.answersNext r as sch →
    (r = .ok → s.drain = false → step s = .next
      { s with
        schedule := sch
        answers := as
        txState := .waitSend
        callLog := s.callLog ++ [.answer r, .call (.sendPulses s.pulse)] }) ∧
    (r ≠ .ok ∨ s.drain = true → step s = .next
      { s with
        schedule := sch
        answers := as
        pend := s.pendAfter r 1
        txState := .waitCarrierOff
        callLog := s.callLog ++ [.answer r, .call (.setCarrier 0 0)] })

/-- 43_transmit R145: the response in WAIT_SEND. -/
def Obligations.SendAnswered : Prop :=
  ∀ (s : State) (r : Response) (as : List Response) (sch : List Turn),
    s.txState = .waitSend → s.answersNext r as sch →
    step s = .next
      { s with
        schedule := sch
        answers := as
        pend := s.pendAfter r 2
        txState := .waitCarrierOff
        callLog := s.callLog ++ [.answer r, .call (.setCarrier 0 0)] }

/-- 43_transmit R146, R147: the response in WAIT_CARRIER_OFF, by DRAIN and by what PEND then holds. -/
def Obligations.CarrierOffAnswered : Prop :=
  ∀ (s : State) (r : Response) (as : List Response) (sch : List Turn),
    s.txState = .waitCarrierOff → s.answersNext r as sch →
    ∃ t, step s = .next t ∧
      t = { s with
        schedule := sch
        answers := as
        carrierOn := t.carrierOn
        err := t.err
        hwErr := t.hwErr
        pend := none
        drain := false
        txState := .idle
        callLog := s.callLog ++ [.answer r] } ∧
      t.carrierOn = (if r = .ok then false else s.carrierOn) ∧
      (s.drain = true → t.err = s.err ∧ t.hwErr = s.hwErr) ∧
      (s.drain = false → s.pendAfter r 3 = none → t.err = 0x0 ∧ t.hwErr = s.hwErr) ∧
      (∀ p, s.drain = false → s.pendAfter r 3 = some p →
        t.err = 0x5 ∧ t.hwErr.toNat = 0x100 * p.step.toNat + p.code.toNat)

/-- 43_transmit R140, R151: the transmitter is given the option to answer and no obligation. Without an answer, or with no
call outstanding, its turn changes nothing. -/
def Obligations.TransmitterMayStaySilent : Prop :=
  ∀ (n : Nat) (s : State) (sch : List Turn),
    (s.answers = [] ∨ s.txState = .idle) → s.schedule = List.replicate n .transmitter ++ sch →
    Host.Core.run Sys2Proof.core n s = .next { s with schedule := sch }

/-- 43_transmit R149: a TRANSMIT started with DRAIN = 0 and not interrupted by RST, with any number of host turns before each
answer and any host program whose accesses lie in the window. Whatever the responses, its calls are those of the table's
row, the outcome is that of the first failing call, CARRIER_ON is what the last answer says, and nothing else of the block
has changed. -/
def Obligations.TransmitOutcomeTable : Prop :=
  ∀ (s : State) (r1 r2 r3 : Response) (q : List HostLine) (as : List Response) (sch : List Turn) (m1 m2 m3 : Nat),
    s.txState = .idle → s.drain = false → s.frameReady = true →
    s.host = .access (.write 0x000 .word 0x08000000) :: q → s.hostInWindow →
    (r1 = .ok → s.answers = r1 :: r2 :: r3 :: as →
      s.schedule = .host :: hostTurnsThenAnswer m1 (hostTurnsThenAnswer m2 (hostTurnsThenAnswer m3 sch)) →
      ∃ t, Host.Core.run Sys2Proof.core (m1 + m2 + m3 + 4) s = .next t ∧
        t = { s with
          schedule := sch
          host := t.host
          busLog := t.busLog
          cmd := 0x08000000
          answers := as
          carrierOn := t.carrierOn
          err := t.err
          hwErr := t.hwErr
          pend := none
          callLog := s.callLog ++ [.call (.setCarrier 38000 500), .answer r1, .call (.sendPulses s.pulse), .answer r2,
            .call (.setCarrier 0 0), .answer r3] } ∧
        (t.carrierOn = true ↔ r3 ≠ .ok) ∧ t.reports (firstFailure 1 [r1, r2, r3])) ∧
    (r1 ≠ .ok → s.answers = r1 :: r2 :: as →
      s.schedule = .host :: hostTurnsThenAnswer m1 (hostTurnsThenAnswer m2 sch) →
      ∃ t, Host.Core.run Sys2Proof.core (m1 + m2 + 3) s = .next t ∧
        t = { s with
          schedule := sch
          host := t.host
          busLog := t.busLog
          cmd := 0x08000000
          answers := as
          carrierOn := t.carrierOn
          err := t.err
          hwErr := t.hwErr
          pend := none
          callLog := s.callLog ++ [.call (.setCarrier 38000 500), .answer r1, .call (.setCarrier 0 0), .answer r2] } ∧
        (t.carrierOn = true ↔ r2 ≠ .ok) ∧ t.reports (firstFailure 1 [r1]))

/-! ## RST -/

/-- 70_reset_and_hazards R192, R193, the RST step itself: the core domain takes its POR values and PEND becomes invalid; while
idle the sequencer domain is kept; while a TRANSMIT runs DRAIN becomes 1 and the rest of it is kept; no call is issued. (That
IDLE with DRAIN = 1, which no run reaches, keeps DRAIN is the model's reading of R192: log 12, DEDUCED.) -/
def Obligations.BlockResetStep : Prop :=
  ∀ (s : State) (sch : List Turn), s.schedule = .rst :: sch →
    step s = .next
      { State.reset with
        carrierOn := s.carrierOn
        txState := s.txState
        drain := if s.txState = .idle then s.drain else true
        callLog := s.callLog
        host := s.host
        answers := s.answers
        schedule := sch
        busLog := s.busLog }

/-- 70_reset_and_hazards R193: what follows an RST in each busy state once the transmitter answers: no further SendPulses,
carrier-off issued unless it already was, nothing recorded, IDLE with ERR = NONE and HWERR = 0, and CARRIER_ON kept unless
carrier-off was answered Ok. A second RST during the drain repeats the first's effect. -/
def Obligations.ResetDrainsTransmission : Prop :=
  (∀ (s : State) (r : Response) (as : List Response) (sch : List Turn),
    s.txState = .waitCarrierOff → s.schedule = [.rst, .transmitter] ++ sch → s.answers = r :: as →
    Host.Core.run Sys2Proof.core 2 s = .next
      { State.reset with
        carrierOn := if r = .ok then false else s.carrierOn
        callLog := s.callLog ++ [.answer r]
        host := s.host
        answers := as
        schedule := sch
        busLog := s.busLog }) ∧
  (∀ (s : State) (r r' : Response) (as : List Response) (sch : List Turn),
    s.txState = .waitCarrierOn ∨ s.txState = .waitSend →
    s.schedule = [.rst, .transmitter, .transmitter] ++ sch → s.answers = r :: r' :: as →
    Host.Core.run Sys2Proof.core 3 s = .next
      { State.reset with
        carrierOn := if r' = .ok then false else s.carrierOn
        callLog := s.callLog ++ [.answer r, .call (.setCarrier 0 0), .answer r']
        host := s.host
        answers := as
        schedule := sch
        busLog := s.busLog }) ∧
  (∀ s : State, s.busy = true → blockReset (blockReset s) = blockReset s)

/-! ## Invariants -/

/-- The state after POR meets the register invariants, its call log is legal, and nothing has been sent. -/
def Obligations.InvariantsAtReset : Prop :=
  State.reset.registersCoherent ∧ State.reset.callLogLegal ∧ State.reset.onlyFramesSent ∧ State.reset.sendReady

/-- 10_state R39 (a to d, f, g) with R37 and R152, kept by every step of every agent from every state that meets it. -/
def Obligations.RegistersStayCoherent : Prop :=
  ∀ s t : State, s.registersCoherent → step s = .next t → t.registersCoherent

/-- 43_transmit R149, 10_state R28: the call log stays a sequence of whole transmissions, with one unfinished exactly as
TXSTATE says, under every step of every agent. -/
def Obligations.CallLogStaysLegal : Prop :=
  ∀ s t : State, s.callLogLegal → step s = .next t → t.callLogLegal

/-- 70_reset_and_hazards R197: only encoder frames are ever sent, kept by every step. -/
def Obligations.OnlyEncoderFramesSent : Prop :=
  ∀ s t : State, s.registersCoherent → s.sendReady → s.onlyFramesSent → step s = .next t →
    t.sendReady ∧ t.onlyFramesSent

/-- Every run from POR, under every host program, every answer of the transmitter and every order of turns, RST among them,
stays within the invariants. -/
def Obligations.EveryRunFromPowerOn : Prop :=
  ∀ (n : Nat) (host : List HostLine) (answers : List Response) (schedule : List Turn) (t : State),
    Host.Core.run Sys2Proof.core n (poweredOn host answers schedule) = .next t →
    t.registersCoherent ∧ t.callLogLegal ∧ t.onlyFramesSent ∧ t.sendReady

/-- 43_transmit R148: in a legal call log, carrier-off has been issued as often as carrier-on when BUSY = 0 or carrier-off is
outstanding, and once less while carrier-on or the pulse train is outstanding. -/
def Obligations.CarrierOffAlwaysFollows : Prop :=
  ∀ s : State, s.callLogLegal →
    callCount s.callLog (.setCarrier 38000 500) = callCount s.callLog (.setCarrier 0 0) +
      (if s.txState = .waitCarrierOn ∨ s.txState = .waitSend then 1 else 0)

/-- 10_state R39 (e), 20_memory R64: a step that hands over a pulse train has DRAIN = 0 and WAIT_CARRIER_ON before it, hands
over one, and it is the buffer's contents. -/
def Obligations.SendsOnlyUndrained : Prop :=
  ∀ s t : State, step s = .next t →
    sentTrains t.callLog = sentTrains s.callLog ∨
    (sentTrains t.callLog = sentTrains s.callLog ++ [s.pulse] ∧ s.drain = false ∧ s.txState = .waitCarrierOn ∧
      t.txState = .waitSend)

/-- 10_state R25: FRAME_READY rises only in the step of an accepted encoding command, and falls only by RST or a host write of
a PULSE entry. -/
def Obligations.FrameReadyEvents : Prop :=
  ∀ s t : State, step s = .next t →
    (s.frameReady = false → t.frameReady = true →
      ∃ w q sch i, s.issues (.write 0x000 .word w) q sch ∧ s.busy = false ∧ decodeWord w = .ok i ∧
        i ≠ .validateWord ∧ i ≠ .validatePulses ∧ i ≠ .transmit ∧ t.err = 0x0) ∧
    (s.frameReady = true → t.frameReady = false →
      (∃ sch, s.schedule = .rst :: sch) ∨
      ∃ (k : Fin 67) (v : Word) (q : List HostLine) (sch : List Turn),
        s.issues (.write (0x100 + 4 * k.val) .word v) q sch ∧ s.busy = false)

/-- 10_state R26: CARRIER_ON rises only when carrier-on is issued and falls only when the carrier-off call is answered Ok. -/
def Obligations.CarrierOnEvents : Prop :=
  ∀ s t : State, step s = .next t →
    (s.carrierOn = false → t.carrierOn = true → t.callLog = s.callLog ++ [.call (.setCarrier 38000 500)]) ∧
    (s.carrierOn = true → t.carrierOn = false →
      s.txState = .waitCarrierOff ∧ t.callLog = s.callLog ++ [.answer .ok] ∧ t.txState = .idle)

/-! ## The assembler -/

/-- 30_encoding R77, R75: the words of the assembler's forms, and that a temperature outside -128..127 has none. -/
def Obligations.AssemblerWords : Prop :=
  (∀ on, assemble (.encPower on) = some (if on then 0x01000001 else 0x01000000)) ∧
  (∀ p ∈ [(Mode.cool, (0x02000000 : Word)), (.heat, 0x02000001), (.fan, 0x02000002), (.dry, 0x02000003),
      (.auto, 0x02000004)], assemble (.encMode p.1) = some p.2) ∧
  (∀ n : Byte, (assemble (.encModeRaw n)).map decodeWord = some (.ok (.encMode n))) ∧
  (∀ t : Int, -128 ≤ t → t ≤ 127 →
    ∃ b : Byte, b.toInt = t ∧ (assemble (.encTemp t)).map decodeWord = some (.ok (.encTemp b))) ∧
  (∀ t : Int, t < -128 ∨ 127 < t → assemble (.encTemp t) = none) ∧
  (∀ p ∈ [(FanSpeed.low, (0x04000000 : Word)), (.medium, 0x04000001), (.high, 0x04000002), (.auto, 0x04000003)],
    assemble (.encFan p.1) = some p.2) ∧
  (∀ n : Byte, (assemble (.encFanRaw n)).map decodeWord = some (.ok (.encFan n))) ∧
  (∀ a c : Byte, (assemble (.encPair a c)).map decodeWord = some (.ok (.encPair a c))) ∧
  assemble .valWord = some 0x06000000 ∧ assemble .valPulses = some 0x07000000 ∧
  assemble .transmit = some 0x08000000 ∧ (∀ w, assemble (.raw w) = some w)

/-- 30_encoding R78: `send.temp t` with t outside 16..30 records OUT_OF_RANGE and leaves out its TRANSMIT, so that no stale
frame is sent; with t inside 16..30 it comes to its TRANSMIT with the new frame ready. (That the guard skips the rest of
the expansion is the model's reading: log 17.) -/
def Obligations.SendTempGuardsTransmit : Prop :=
  ∀ (t : Int) (ls q : List HostLine) (s : State) (sch : List Turn),
    expand (.sendTemp t) = some ls → s.busy = false → s.host = ls ++ q → s.schedule = .host :: .host :: sch →
    ∃ u, Host.Core.run Sys2Proof.core 2 s = .next u ∧ u.callLog = s.callLog ∧ u.schedule = sch ∧
      (t < 16 ∨ 30 < t → u.host = q ∧ u.err = 0x1 ∧ u.pulse = s.pulse ∧ u.frameReady = s.frameReady) ∧
      (16 ≤ t → t ≤ 30 → u.host = .access (.write 0x000 .word 0x08000000) :: .waitIdle :: q ∧ u.err = 0x0 ∧
        u.frameReady = true ∧ u.pairCmd.toNat = t.toNat)

/-- 30_encoding R78: a host turn at `wait.idle` reads STATUS and goes on exactly when BUSY read 0. -/
def Obligations.WaitIdlePolls : Prop :=
  ∀ (s : State) (q : List HostLine) (sch : List Turn),
    s.schedule = .host :: sch → s.host = .waitIdle :: q →
    step s = .next
      { s.completed (.read 0x004 .word) (.data (readReg .status s)) q sch with
        host := if s.busy then .waitIdle :: q else q }
end

