-- ==== Sys2Proof/Laws/Decode.lean ====
section
/-! SUPPORT. The bytes of a word, the fields of a command word, and decoding from byte lanes. -/

namespace Sys2Proof

/-- Bit i of a word made of four bytes. -/
theorem getLsbD_wordOfLanes (b0 b1 b2 b3 : Byte) (i : Nat) :
    (wordOfLanes b0 b1 b2 b3).getLsbD i =
      if i < 8 then b0.getLsbD i
      else if i < 16 then b1.getLsbD (i - 8)
      else if i < 24 then b2.getLsbD (i - 16)
      else b3.getLsbD (i - 24) := by
  change (b3 ++ b2 ++ b1 ++ b0 : BitVec (8 + 8 + 8 + 8)).getLsbD i = _
  simp only [BitVec.getLsbD_append]
  have h2 : i - 8 - 8 = i - 16 := by omega
  have h3 : i - 16 - 8 = i - 24 := by omega
  rw [h2, h3]
  split_ifs <;> first | rfl | omega

@[simp] theorem extract0_wordOfLanes (b0 b1 b2 b3 : Byte) : (wordOfLanes b0 b1 b2 b3).extractLsb' 0 8 = b0 := by
  apply BitVec.eq_of_getLsbD_eq
  intro i hi
  simp [getLsbD_wordOfLanes, hi]

@[simp] theorem extract8_wordOfLanes (b0 b1 b2 b3 : Byte) : (wordOfLanes b0 b1 b2 b3).extractLsb' 8 8 = b1 := by
  apply BitVec.eq_of_getLsbD_eq
  intro i hi
  rw [BitVec.getLsbD_extractLsb', getLsbD_wordOfLanes, if_neg (by omega), if_pos (by omega)]
  simp [hi]

@[simp] theorem extract16_wordOfLanes (b0 b1 b2 b3 : Byte) : (wordOfLanes b0 b1 b2 b3).extractLsb' 16 8 = b2 := by
  apply BitVec.eq_of_getLsbD_eq
  intro i hi
  rw [BitVec.getLsbD_extractLsb', getLsbD_wordOfLanes, if_neg (by omega), if_neg (by omega), if_pos (by omega)]
  simp [hi]

@[simp] theorem extract24_wordOfLanes (b0 b1 b2 b3 : Byte) : (wordOfLanes b0 b1 b2 b3).extractLsb' 24 8 = b3 := by
  apply BitVec.eq_of_getLsbD_eq
  intro i hi
  rw [BitVec.getLsbD_extractLsb', getLsbD_wordOfLanes, if_neg (by omega), if_neg (by omega), if_neg (by omega)]
  simp [hi]

/-- The lanes of a word give the word back (20_memory R57). -/
@[simp] theorem wordOfLanes_extract (w : Word) :
    wordOfLanes (w.extractLsb' 0 8) (w.extractLsb' 8 8) (w.extractLsb' 16 8) (w.extractLsb' 24 8) = w := by
  apply BitVec.eq_of_getLsbD_eq
  intro i hi
  rw [getLsbD_wordOfLanes]
  simp only [BitVec.getLsbD_extractLsb']
  split_ifs with h1 h2 h3
  · simp [h1]
  · simp [show 8 + (i - 8) = i by omega]; omega
  · simp [show 16 + (i - 16) = i by omega]; omega
  · simp [show 24 + (i - 24) = i by omega]; omega

/-- Two words are equal when their four bytes are. -/
theorem word_ext {v w : Word} (h0 : v.extractLsb' 0 8 = w.extractLsb' 0 8) (h1 : v.extractLsb' 8 8 = w.extractLsb' 8 8)
    (h2 : v.extractLsb' 16 8 = w.extractLsb' 16 8) (h3 : v.extractLsb' 24 8 = w.extractLsb' 24 8) : v = w := by
  rw [← wordOfLanes_extract v, ← wordOfLanes_extract w, h0, h1, h2, h3]

@[simp] theorem opField_commandWord (op a b : Byte) : opField (commandWord op a b) = op := extract24_wordOfLanes ..

@[simp] theorem rsvField_commandWord (op a b : Byte) : rsvField (commandWord op a b) = 0 := extract16_wordOfLanes ..

@[simp] theorem aField_commandWord (op a b : Byte) : aField (commandWord op a b) = a := extract8_wordOfLanes ..

@[simp] theorem bField_commandWord (op a b : Byte) : bField (commandWord op a b) = b := extract0_wordOfLanes ..

/-- A word with RSV zero is made of its other three fields (R70). -/
theorem commandWord_of_fields (w : Word) (h : rsvField w = 0) : commandWord (opField w) (aField w) (bField w) = w := by
  have h' : w.extractLsb' 16 8 = 0 := h
  simp only [commandWord, opField, aField, bField]
  rw [← h']
  exact wordOfLanes_extract w

/-- What decoding bytes is, once four lanes are there (R70). -/
theorem decode_laneBytes_append (w : Word) (rest : List Byte) :
    decode (laneBytes w ++ rest) = (decodeWord w).map fun i => (i, rest) := by
  simp only [laneBytes, List.cons_append, List.nil_append, decode, wordOfLanes_extract]
  cases decodeWord w <;> rfl

end Sys2Proof
end

