-- ==== Sys2Proof/Laws/State.lean ====
section
/-! SUPPORT. One lemma per field per shared update, true by rfl, so that no later proof unfolds a record update. -/

namespace Sys2Proof.Machine

section setCmd
/-! `CMD <- v` (R22). -/

variable (v : Word) (s : State)

@[simp] theorem setCmd_cmd : (setCmd v s).cmd = v := rfl
@[simp] theorem setCmd_frameReady : (setCmd v s).frameReady = s.frameReady := rfl
@[simp] theorem setCmd_carrierOn : (setCmd v s).carrierOn = s.carrierOn := rfl
@[simp] theorem setCmd_drain : (setCmd v s).drain = s.drain := rfl
@[simp] theorem setCmd_txState : (setCmd v s).txState = s.txState := rfl
@[simp] theorem setCmd_err : (setCmd v s).err = s.err := rfl
@[simp] theorem setCmd_pulse : (setCmd v s).pulse = s.pulse := rfl
@[simp] theorem setCmd_pair : (setCmd v s).pair = s.pair := rfl
@[simp] theorem setCmd_frameWord : (setCmd v s).frameWord = s.frameWord := rfl
@[simp] theorem setCmd_rxWord : (setCmd v s).rxWord = s.rxWord := rfl
@[simp] theorem setCmd_rxResult : (setCmd v s).rxResult = s.rxResult := rfl
@[simp] theorem setCmd_hwErr : (setCmd v s).hwErr = s.hwErr := rfl
@[simp] theorem setCmd_pend : (setCmd v s).pend = s.pend := rfl
@[simp] theorem setCmd_callLog : (setCmd v s).callLog = s.callLog := rfl
@[simp] theorem setCmd_host : (setCmd v s).host = s.host := rfl
@[simp] theorem setCmd_answers : (setCmd v s).answers = s.answers := rfl
@[simp] theorem setCmd_schedule : (setCmd v s).schedule = s.schedule := rfl
@[simp] theorem setCmd_busLog : (setCmd v s).busLog = s.busLog := rfl

end setCmd

section setSchedule
/-! the turns left. -/

variable (sch : List Turn) (s : State)

@[simp] theorem setSchedule_cmd : (setSchedule sch s).cmd = s.cmd := rfl
@[simp] theorem setSchedule_frameReady : (setSchedule sch s).frameReady = s.frameReady := rfl
@[simp] theorem setSchedule_carrierOn : (setSchedule sch s).carrierOn = s.carrierOn := rfl
@[simp] theorem setSchedule_drain : (setSchedule sch s).drain = s.drain := rfl
@[simp] theorem setSchedule_txState : (setSchedule sch s).txState = s.txState := rfl
@[simp] theorem setSchedule_err : (setSchedule sch s).err = s.err := rfl
@[simp] theorem setSchedule_pulse : (setSchedule sch s).pulse = s.pulse := rfl
@[simp] theorem setSchedule_pair : (setSchedule sch s).pair = s.pair := rfl
@[simp] theorem setSchedule_frameWord : (setSchedule sch s).frameWord = s.frameWord := rfl
@[simp] theorem setSchedule_rxWord : (setSchedule sch s).rxWord = s.rxWord := rfl
@[simp] theorem setSchedule_rxResult : (setSchedule sch s).rxResult = s.rxResult := rfl
@[simp] theorem setSchedule_hwErr : (setSchedule sch s).hwErr = s.hwErr := rfl
@[simp] theorem setSchedule_pend : (setSchedule sch s).pend = s.pend := rfl
@[simp] theorem setSchedule_callLog : (setSchedule sch s).callLog = s.callLog := rfl
@[simp] theorem setSchedule_host : (setSchedule sch s).host = s.host := rfl
@[simp] theorem setSchedule_answers : (setSchedule sch s).answers = s.answers := rfl
@[simp] theorem setSchedule_schedule : (setSchedule sch s).schedule = sch := rfl
@[simp] theorem setSchedule_busLog : (setSchedule sch s).busLog = s.busLog := rfl

end setSchedule

section setHost
/-! the host's lines left. -/

variable (q : List HostLine) (s : State)

@[simp] theorem setHost_cmd : (setHost q s).cmd = s.cmd := rfl
@[simp] theorem setHost_frameReady : (setHost q s).frameReady = s.frameReady := rfl
@[simp] theorem setHost_carrierOn : (setHost q s).carrierOn = s.carrierOn := rfl
@[simp] theorem setHost_drain : (setHost q s).drain = s.drain := rfl
@[simp] theorem setHost_txState : (setHost q s).txState = s.txState := rfl
@[simp] theorem setHost_err : (setHost q s).err = s.err := rfl
@[simp] theorem setHost_pulse : (setHost q s).pulse = s.pulse := rfl
@[simp] theorem setHost_pair : (setHost q s).pair = s.pair := rfl
@[simp] theorem setHost_frameWord : (setHost q s).frameWord = s.frameWord := rfl
@[simp] theorem setHost_rxWord : (setHost q s).rxWord = s.rxWord := rfl
@[simp] theorem setHost_rxResult : (setHost q s).rxResult = s.rxResult := rfl
@[simp] theorem setHost_hwErr : (setHost q s).hwErr = s.hwErr := rfl
@[simp] theorem setHost_pend : (setHost q s).pend = s.pend := rfl
@[simp] theorem setHost_callLog : (setHost q s).callLog = s.callLog := rfl
@[simp] theorem setHost_host : (setHost q s).host = q := rfl
@[simp] theorem setHost_answers : (setHost q s).answers = s.answers := rfl
@[simp] theorem setHost_schedule : (setHost q s).schedule = s.schedule := rfl
@[simp] theorem setHost_busLog : (setHost q s).busLog = s.busLog := rfl

end setHost

section setAnswers
/-! the answers left. -/

variable (as : List Response) (s : State)

@[simp] theorem setAnswers_cmd : (setAnswers as s).cmd = s.cmd := rfl
@[simp] theorem setAnswers_frameReady : (setAnswers as s).frameReady = s.frameReady := rfl
@[simp] theorem setAnswers_carrierOn : (setAnswers as s).carrierOn = s.carrierOn := rfl
@[simp] theorem setAnswers_drain : (setAnswers as s).drain = s.drain := rfl
@[simp] theorem setAnswers_txState : (setAnswers as s).txState = s.txState := rfl
@[simp] theorem setAnswers_err : (setAnswers as s).err = s.err := rfl
@[simp] theorem setAnswers_pulse : (setAnswers as s).pulse = s.pulse := rfl
@[simp] theorem setAnswers_pair : (setAnswers as s).pair = s.pair := rfl
@[simp] theorem setAnswers_frameWord : (setAnswers as s).frameWord = s.frameWord := rfl
@[simp] theorem setAnswers_rxWord : (setAnswers as s).rxWord = s.rxWord := rfl
@[simp] theorem setAnswers_rxResult : (setAnswers as s).rxResult = s.rxResult := rfl
@[simp] theorem setAnswers_hwErr : (setAnswers as s).hwErr = s.hwErr := rfl
@[simp] theorem setAnswers_pend : (setAnswers as s).pend = s.pend := rfl
@[simp] theorem setAnswers_callLog : (setAnswers as s).callLog = s.callLog := rfl
@[simp] theorem setAnswers_host : (setAnswers as s).host = s.host := rfl
@[simp] theorem setAnswers_answers : (setAnswers as s).answers = as := rfl
@[simp] theorem setAnswers_schedule : (setAnswers as s).schedule = s.schedule := rfl
@[simp] theorem setAnswers_busLog : (setAnswers as s).busLog = s.busLog := rfl

end setAnswers

section setRxWord
/-! `RXWORD <- v` (R33). -/

variable (v : Word) (s : State)

@[simp] theorem setRxWord_cmd : (setRxWord v s).cmd = s.cmd := rfl
@[simp] theorem setRxWord_frameReady : (setRxWord v s).frameReady = s.frameReady := rfl
@[simp] theorem setRxWord_carrierOn : (setRxWord v s).carrierOn = s.carrierOn := rfl
@[simp] theorem setRxWord_drain : (setRxWord v s).drain = s.drain := rfl
@[simp] theorem setRxWord_txState : (setRxWord v s).txState = s.txState := rfl
@[simp] theorem setRxWord_err : (setRxWord v s).err = s.err := rfl
@[simp] theorem setRxWord_pulse : (setRxWord v s).pulse = s.pulse := rfl
@[simp] theorem setRxWord_pair : (setRxWord v s).pair = s.pair := rfl
@[simp] theorem setRxWord_frameWord : (setRxWord v s).frameWord = s.frameWord := rfl
@[simp] theorem setRxWord_rxWord : (setRxWord v s).rxWord = v := rfl
@[simp] theorem setRxWord_rxResult : (setRxWord v s).rxResult = s.rxResult := rfl
@[simp] theorem setRxWord_hwErr : (setRxWord v s).hwErr = s.hwErr := rfl
@[simp] theorem setRxWord_pend : (setRxWord v s).pend = s.pend := rfl
@[simp] theorem setRxWord_callLog : (setRxWord v s).callLog = s.callLog := rfl
@[simp] theorem setRxWord_host : (setRxWord v s).host = s.host := rfl
@[simp] theorem setRxWord_answers : (setRxWord v s).answers = s.answers := rfl
@[simp] theorem setRxWord_schedule : (setRxWord v s).schedule = s.schedule := rfl
@[simp] theorem setRxWord_busLog : (setRxWord v s).busLog = s.busLog := rfl

end setRxWord

section setErr
/-! `STATUS.ERR <- code`. -/

variable (e : ErrCode) (s : State)

@[simp] theorem setErr_cmd : (setErr e s).cmd = s.cmd := rfl
@[simp] theorem setErr_frameReady : (setErr e s).frameReady = s.frameReady := rfl
@[simp] theorem setErr_carrierOn : (setErr e s).carrierOn = s.carrierOn := rfl
@[simp] theorem setErr_drain : (setErr e s).drain = s.drain := rfl
@[simp] theorem setErr_txState : (setErr e s).txState = s.txState := rfl
@[simp] theorem setErr_err : (setErr e s).err = e.code := rfl
@[simp] theorem setErr_pulse : (setErr e s).pulse = s.pulse := rfl
@[simp] theorem setErr_pair : (setErr e s).pair = s.pair := rfl
@[simp] theorem setErr_frameWord : (setErr e s).frameWord = s.frameWord := rfl
@[simp] theorem setErr_rxWord : (setErr e s).rxWord = s.rxWord := rfl
@[simp] theorem setErr_rxResult : (setErr e s).rxResult = s.rxResult := rfl
@[simp] theorem setErr_hwErr : (setErr e s).hwErr = s.hwErr := rfl
@[simp] theorem setErr_pend : (setErr e s).pend = s.pend := rfl
@[simp] theorem setErr_callLog : (setErr e s).callLog = s.callLog := rfl
@[simp] theorem setErr_host : (setErr e s).host = s.host := rfl
@[simp] theorem setErr_answers : (setErr e s).answers = s.answers := rfl
@[simp] theorem setErr_schedule : (setErr e s).schedule = s.schedule := rfl
@[simp] theorem setErr_busLog : (setErr e s).busLog = s.busLog := rfl

end setErr

section raiseErr
/-! `raise Err(code)` (R171). -/

variable (e : ErrCode) (s : State)

@[simp] theorem raiseErr_cmd : (raiseErr e s).cmd = s.cmd := rfl
@[simp] theorem raiseErr_frameReady : (raiseErr e s).frameReady = s.frameReady := rfl
@[simp] theorem raiseErr_carrierOn : (raiseErr e s).carrierOn = s.carrierOn := rfl
@[simp] theorem raiseErr_drain : (raiseErr e s).drain = s.drain := rfl
@[simp] theorem raiseErr_txState : (raiseErr e s).txState = s.txState := rfl
@[simp] theorem raiseErr_err : (raiseErr e s).err = e.code := rfl
@[simp] theorem raiseErr_pulse : (raiseErr e s).pulse = s.pulse := rfl
@[simp] theorem raiseErr_pair : (raiseErr e s).pair = s.pair := rfl
@[simp] theorem raiseErr_frameWord : (raiseErr e s).frameWord = s.frameWord := rfl
@[simp] theorem raiseErr_rxWord : (raiseErr e s).rxWord = s.rxWord := rfl
@[simp] theorem raiseErr_rxResult : (raiseErr e s).rxResult = s.rxResult := rfl
@[simp] theorem raiseErr_hwErr : (raiseErr e s).hwErr = s.hwErr := rfl
@[simp] theorem raiseErr_pend : (raiseErr e s).pend = s.pend := rfl
@[simp] theorem raiseErr_callLog : (raiseErr e s).callLog = s.callLog := rfl
@[simp] theorem raiseErr_host : (raiseErr e s).host = s.host := rfl
@[simp] theorem raiseErr_answers : (raiseErr e s).answers = s.answers := rfl
@[simp] theorem raiseErr_schedule : (raiseErr e s).schedule = s.schedule := rfl
@[simp] theorem raiseErr_busLog : (raiseErr e s).busLog = s.busLog := rfl

end raiseErr

section emitFrame
/-! EmitFrame(a, c) (R104). -/

variable (a c : Byte) (s : State)

@[simp] theorem emitFrame_cmd : (emitFrame a c s).cmd = s.cmd := rfl
@[simp] theorem emitFrame_frameReady : (emitFrame a c s).frameReady = true := rfl
@[simp] theorem emitFrame_carrierOn : (emitFrame a c s).carrierOn = s.carrierOn := rfl
@[simp] theorem emitFrame_drain : (emitFrame a c s).drain = s.drain := rfl
@[simp] theorem emitFrame_txState : (emitFrame a c s).txState = s.txState := rfl
@[simp] theorem emitFrame_err : (emitFrame a c s).err = ErrCode.none.code := rfl
@[simp] theorem emitFrame_pulse : (emitFrame a c s).pulse = necFrame a c := rfl
@[simp] theorem emitFrame_pair : (emitFrame a c s).pair = pairWord a c := rfl
@[simp] theorem emitFrame_frameWord : (emitFrame a c s).frameWord = frameWordOf a c := rfl
@[simp] theorem emitFrame_rxWord : (emitFrame a c s).rxWord = s.rxWord := rfl
@[simp] theorem emitFrame_rxResult : (emitFrame a c s).rxResult = s.rxResult := rfl
@[simp] theorem emitFrame_hwErr : (emitFrame a c s).hwErr = s.hwErr := rfl
@[simp] theorem emitFrame_pend : (emitFrame a c s).pend = s.pend := rfl
@[simp] theorem emitFrame_callLog : (emitFrame a c s).callLog = s.callLog := rfl
@[simp] theorem emitFrame_host : (emitFrame a c s).host = s.host := rfl
@[simp] theorem emitFrame_answers : (emitFrame a c s).answers = s.answers := rfl
@[simp] theorem emitFrame_schedule : (emitFrame a c s).schedule = s.schedule := rfl
@[simp] theorem emitFrame_busLog : (emitFrame a c s).busLog = s.busLog := rfl

end emitFrame

section issue
/-! `issue c` (R38). -/

variable (c : Call) (s : State)

@[simp] theorem issue_cmd : (issue c s).cmd = s.cmd := rfl
@[simp] theorem issue_frameReady : (issue c s).frameReady = s.frameReady := rfl
@[simp] theorem issue_carrierOn : (issue c s).carrierOn = s.carrierOn := rfl
@[simp] theorem issue_drain : (issue c s).drain = s.drain := rfl
@[simp] theorem issue_txState : (issue c s).txState = s.txState := rfl
@[simp] theorem issue_err : (issue c s).err = s.err := rfl
@[simp] theorem issue_pulse : (issue c s).pulse = s.pulse := rfl
@[simp] theorem issue_pair : (issue c s).pair = s.pair := rfl
@[simp] theorem issue_frameWord : (issue c s).frameWord = s.frameWord := rfl
@[simp] theorem issue_rxWord : (issue c s).rxWord = s.rxWord := rfl
@[simp] theorem issue_rxResult : (issue c s).rxResult = s.rxResult := rfl
@[simp] theorem issue_hwErr : (issue c s).hwErr = s.hwErr := rfl
@[simp] theorem issue_pend : (issue c s).pend = s.pend := rfl
@[simp] theorem issue_callLog : (issue c s).callLog = s.callLog ++ [.call c] := rfl
@[simp] theorem issue_host : (issue c s).host = s.host := rfl
@[simp] theorem issue_answers : (issue c s).answers = s.answers := rfl
@[simp] theorem issue_schedule : (issue c s).schedule = s.schedule := rfl
@[simp] theorem issue_busLog : (issue c s).busLog = s.busLog := rfl

end issue

section logAnswer
/-! an answer joins the log (R38). -/

variable (r : Response) (s : State)

@[simp] theorem logAnswer_cmd : (logAnswer r s).cmd = s.cmd := rfl
@[simp] theorem logAnswer_frameReady : (logAnswer r s).frameReady = s.frameReady := rfl
@[simp] theorem logAnswer_carrierOn : (logAnswer r s).carrierOn = s.carrierOn := rfl
@[simp] theorem logAnswer_drain : (logAnswer r s).drain = s.drain := rfl
@[simp] theorem logAnswer_txState : (logAnswer r s).txState = s.txState := rfl
@[simp] theorem logAnswer_err : (logAnswer r s).err = s.err := rfl
@[simp] theorem logAnswer_pulse : (logAnswer r s).pulse = s.pulse := rfl
@[simp] theorem logAnswer_pair : (logAnswer r s).pair = s.pair := rfl
@[simp] theorem logAnswer_frameWord : (logAnswer r s).frameWord = s.frameWord := rfl
@[simp] theorem logAnswer_rxWord : (logAnswer r s).rxWord = s.rxWord := rfl
@[simp] theorem logAnswer_rxResult : (logAnswer r s).rxResult = s.rxResult := rfl
@[simp] theorem logAnswer_hwErr : (logAnswer r s).hwErr = s.hwErr := rfl
@[simp] theorem logAnswer_pend : (logAnswer r s).pend = s.pend := rfl
@[simp] theorem logAnswer_callLog : (logAnswer r s).callLog = s.callLog ++ [.answer r] := rfl
@[simp] theorem logAnswer_host : (logAnswer r s).host = s.host := rfl
@[simp] theorem logAnswer_answers : (logAnswer r s).answers = s.answers := rfl
@[simp] theorem logAnswer_schedule : (logAnswer r s).schedule = s.schedule := rfl
@[simp] theorem logAnswer_busLog : (logAnswer r s).busLog = s.busLog := rfl

end logAnswer

section recordBus
/-! a completed access joins the host's record. -/

variable (a : Access) (r : BusResponse) (s : State)

@[simp] theorem recordBus_cmd : (recordBus a r s).cmd = s.cmd := rfl
@[simp] theorem recordBus_frameReady : (recordBus a r s).frameReady = s.frameReady := rfl
@[simp] theorem recordBus_carrierOn : (recordBus a r s).carrierOn = s.carrierOn := rfl
@[simp] theorem recordBus_drain : (recordBus a r s).drain = s.drain := rfl
@[simp] theorem recordBus_txState : (recordBus a r s).txState = s.txState := rfl
@[simp] theorem recordBus_err : (recordBus a r s).err = s.err := rfl
@[simp] theorem recordBus_pulse : (recordBus a r s).pulse = s.pulse := rfl
@[simp] theorem recordBus_pair : (recordBus a r s).pair = s.pair := rfl
@[simp] theorem recordBus_frameWord : (recordBus a r s).frameWord = s.frameWord := rfl
@[simp] theorem recordBus_rxWord : (recordBus a r s).rxWord = s.rxWord := rfl
@[simp] theorem recordBus_rxResult : (recordBus a r s).rxResult = s.rxResult := rfl
@[simp] theorem recordBus_hwErr : (recordBus a r s).hwErr = s.hwErr := rfl
@[simp] theorem recordBus_pend : (recordBus a r s).pend = s.pend := rfl
@[simp] theorem recordBus_callLog : (recordBus a r s).callLog = s.callLog := rfl
@[simp] theorem recordBus_host : (recordBus a r s).host = s.host := rfl
@[simp] theorem recordBus_answers : (recordBus a r s).answers = s.answers := rfl
@[simp] theorem recordBus_schedule : (recordBus a r s).schedule = s.schedule := rfl
@[simp] theorem recordBus_busLog : (recordBus a r s).busLog = s.busLog ++ [⟨a, r⟩] := rfl

end recordBus

section reportWord
/-! RXRESULT of a checked word (R122). -/

variable (w : Word) (s : State)

@[simp] theorem reportWord_cmd : (reportWord w s).cmd = s.cmd := rfl
@[simp] theorem reportWord_frameReady : (reportWord w s).frameReady = s.frameReady := rfl
@[simp] theorem reportWord_carrierOn : (reportWord w s).carrierOn = s.carrierOn := rfl
@[simp] theorem reportWord_drain : (reportWord w s).drain = s.drain := rfl
@[simp] theorem reportWord_txState : (reportWord w s).txState = s.txState := rfl
@[simp] theorem reportWord_err : (reportWord w s).err = ErrCode.none.code := rfl
@[simp] theorem reportWord_pulse : (reportWord w s).pulse = s.pulse := rfl
@[simp] theorem reportWord_pair : (reportWord w s).pair = s.pair := rfl
@[simp] theorem reportWord_frameWord : (reportWord w s).frameWord = s.frameWord := rfl
@[simp] theorem reportWord_rxWord : (reportWord w s).rxWord = s.rxWord := rfl
@[simp] theorem reportWord_rxResult : (reportWord w s).rxResult = rxResultOf w := rfl
@[simp] theorem reportWord_hwErr : (reportWord w s).hwErr = s.hwErr := rfl
@[simp] theorem reportWord_pend : (reportWord w s).pend = s.pend := rfl
@[simp] theorem reportWord_callLog : (reportWord w s).callLog = s.callLog := rfl
@[simp] theorem reportWord_host : (reportWord w s).host = s.host := rfl
@[simp] theorem reportWord_answers : (reportWord w s).answers = s.answers := rfl
@[simp] theorem reportWord_schedule : (reportWord w s).schedule = s.schedule := rfl
@[simp] theorem reportWord_busLog : (reportWord w s).busLog = s.busLog := rfl

end reportWord

section startTransmit
/-! Start() (R143). -/

variable (s : State)

@[simp] theorem startTransmit_cmd : (startTransmit s).cmd = s.cmd := rfl
@[simp] theorem startTransmit_frameReady : (startTransmit s).frameReady = s.frameReady := rfl
@[simp] theorem startTransmit_carrierOn : (startTransmit s).carrierOn = true := rfl
@[simp] theorem startTransmit_drain : (startTransmit s).drain = s.drain := rfl
@[simp] theorem startTransmit_txState : (startTransmit s).txState = .waitCarrierOn := rfl
@[simp] theorem startTransmit_err : (startTransmit s).err = ErrCode.none.code := rfl
@[simp] theorem startTransmit_pulse : (startTransmit s).pulse = s.pulse := rfl
@[simp] theorem startTransmit_pair : (startTransmit s).pair = s.pair := rfl
@[simp] theorem startTransmit_frameWord : (startTransmit s).frameWord = s.frameWord := rfl
@[simp] theorem startTransmit_rxWord : (startTransmit s).rxWord = s.rxWord := rfl
@[simp] theorem startTransmit_rxResult : (startTransmit s).rxResult = s.rxResult := rfl
@[simp] theorem startTransmit_hwErr : (startTransmit s).hwErr = 0 := rfl
@[simp] theorem startTransmit_pend : (startTransmit s).pend = none := rfl
@[simp] theorem startTransmit_callLog : (startTransmit s).callLog = s.callLog ++ [.call carrierOnCall] := rfl
@[simp] theorem startTransmit_host : (startTransmit s).host = s.host := rfl
@[simp] theorem startTransmit_answers : (startTransmit s).answers = s.answers := rfl
@[simp] theorem startTransmit_schedule : (startTransmit s).schedule = s.schedule := rfl
@[simp] theorem startTransmit_busLog : (startTransmit s).busLog = s.busLog := rfl

end startTransmit

section requestCarrierOff
/-! step 3 is requested (R144, R145). -/

variable (s : State)

@[simp] theorem requestCarrierOff_cmd : (requestCarrierOff s).cmd = s.cmd := rfl
@[simp] theorem requestCarrierOff_frameReady : (requestCarrierOff s).frameReady = s.frameReady := rfl
@[simp] theorem requestCarrierOff_carrierOn : (requestCarrierOff s).carrierOn = s.carrierOn := rfl
@[simp] theorem requestCarrierOff_drain : (requestCarrierOff s).drain = s.drain := rfl
@[simp] theorem requestCarrierOff_txState : (requestCarrierOff s).txState = .waitCarrierOff := rfl
@[simp] theorem requestCarrierOff_err : (requestCarrierOff s).err = s.err := rfl
@[simp] theorem requestCarrierOff_pulse : (requestCarrierOff s).pulse = s.pulse := rfl
@[simp] theorem requestCarrierOff_pair : (requestCarrierOff s).pair = s.pair := rfl
@[simp] theorem requestCarrierOff_frameWord : (requestCarrierOff s).frameWord = s.frameWord := rfl
@[simp] theorem requestCarrierOff_rxWord : (requestCarrierOff s).rxWord = s.rxWord := rfl
@[simp] theorem requestCarrierOff_rxResult : (requestCarrierOff s).rxResult = s.rxResult := rfl
@[simp] theorem requestCarrierOff_hwErr : (requestCarrierOff s).hwErr = s.hwErr := rfl
@[simp] theorem requestCarrierOff_pend : (requestCarrierOff s).pend = s.pend := rfl
@[simp] theorem requestCarrierOff_callLog : (requestCarrierOff s).callLog = s.callLog ++ [.call carrierOffCall] := rfl
@[simp] theorem requestCarrierOff_host : (requestCarrierOff s).host = s.host := rfl
@[simp] theorem requestCarrierOff_answers : (requestCarrierOff s).answers = s.answers := rfl
@[simp] theorem requestCarrierOff_schedule : (requestCarrierOff s).schedule = s.schedule := rfl
@[simp] theorem requestCarrierOff_busLog : (requestCarrierOff s).busLog = s.busLog := rfl

end requestCarrierOff

section requestSend
/-! step 2 is requested (R144). -/

variable (s : State)

@[simp] theorem requestSend_cmd : (requestSend s).cmd = s.cmd := rfl
@[simp] theorem requestSend_frameReady : (requestSend s).frameReady = s.frameReady := rfl
@[simp] theorem requestSend_carrierOn : (requestSend s).carrierOn = s.carrierOn := rfl
@[simp] theorem requestSend_drain : (requestSend s).drain = s.drain := rfl
@[simp] theorem requestSend_txState : (requestSend s).txState = .waitSend := rfl
@[simp] theorem requestSend_err : (requestSend s).err = s.err := rfl
@[simp] theorem requestSend_pulse : (requestSend s).pulse = s.pulse := rfl
@[simp] theorem requestSend_pair : (requestSend s).pair = s.pair := rfl
@[simp] theorem requestSend_frameWord : (requestSend s).frameWord = s.frameWord := rfl
@[simp] theorem requestSend_rxWord : (requestSend s).rxWord = s.rxWord := rfl
@[simp] theorem requestSend_rxResult : (requestSend s).rxResult = s.rxResult := rfl
@[simp] theorem requestSend_hwErr : (requestSend s).hwErr = s.hwErr := rfl
@[simp] theorem requestSend_pend : (requestSend s).pend = s.pend := rfl
@[simp] theorem requestSend_callLog : (requestSend s).callLog = s.callLog ++ [.call (.sendPulses s.pulse)] := rfl
@[simp] theorem requestSend_host : (requestSend s).host = s.host := rfl
@[simp] theorem requestSend_answers : (requestSend s).answers = s.answers := rfl
@[simp] theorem requestSend_schedule : (requestSend s).schedule = s.schedule := rfl
@[simp] theorem requestSend_busLog : (requestSend s).busLog = s.busLog := rfl

end requestSend

section blockReset
/-! RST (R192, R193). -/

variable (s : State)

@[simp] theorem blockReset_cmd : (blockReset s).cmd = 0 := rfl
@[simp] theorem blockReset_frameReady : (blockReset s).frameReady = false := rfl
@[simp] theorem blockReset_carrierOn : (blockReset s).carrierOn = s.carrierOn := rfl
@[simp] theorem blockReset_drain : (blockReset s).drain = (s.drain || s.busy) := rfl
@[simp] theorem blockReset_txState : (blockReset s).txState = s.txState := rfl
@[simp] theorem blockReset_err : (blockReset s).err = ErrCode.none.code := rfl
@[simp] theorem blockReset_pulse : (blockReset s).pulse = Vector.replicate 67 0 := rfl
@[simp] theorem blockReset_pair : (blockReset s).pair = 0 := rfl
@[simp] theorem blockReset_frameWord : (blockReset s).frameWord = 0 := rfl
@[simp] theorem blockReset_rxWord : (blockReset s).rxWord = 0 := rfl
@[simp] theorem blockReset_rxResult : (blockReset s).rxResult = 0 := rfl
@[simp] theorem blockReset_hwErr : (blockReset s).hwErr = 0 := rfl
@[simp] theorem blockReset_pend : (blockReset s).pend = none := rfl
@[simp] theorem blockReset_callLog : (blockReset s).callLog = s.callLog := rfl
@[simp] theorem blockReset_host : (blockReset s).host = s.host := rfl
@[simp] theorem blockReset_answers : (blockReset s).answers = s.answers := rfl
@[simp] theorem blockReset_schedule : (blockReset s).schedule = s.schedule := rfl
@[simp] theorem blockReset_busLog : (blockReset s).busLog = s.busLog := rfl

end blockReset

section setPend
/-! `PEND <- p` (R37). -/

variable (p : Option Pend) (s : State)

@[simp] theorem setPend_cmd : (setPend p s).cmd = s.cmd := rfl
@[simp] theorem setPend_frameReady : (setPend p s).frameReady = s.frameReady := rfl
@[simp] theorem setPend_carrierOn : (setPend p s).carrierOn = s.carrierOn := rfl
@[simp] theorem setPend_drain : (setPend p s).drain = s.drain := rfl
@[simp] theorem setPend_txState : (setPend p s).txState = s.txState := rfl
@[simp] theorem setPend_err : (setPend p s).err = s.err := rfl
@[simp] theorem setPend_pulse : (setPend p s).pulse = s.pulse := rfl
@[simp] theorem setPend_pair : (setPend p s).pair = s.pair := rfl
@[simp] theorem setPend_frameWord : (setPend p s).frameWord = s.frameWord := rfl
@[simp] theorem setPend_rxWord : (setPend p s).rxWord = s.rxWord := rfl
@[simp] theorem setPend_rxResult : (setPend p s).rxResult = s.rxResult := rfl
@[simp] theorem setPend_hwErr : (setPend p s).hwErr = s.hwErr := rfl
@[simp] theorem setPend_pend : (setPend p s).pend = p := rfl
@[simp] theorem setPend_callLog : (setPend p s).callLog = s.callLog := rfl
@[simp] theorem setPend_host : (setPend p s).host = s.host := rfl
@[simp] theorem setPend_answers : (setPend p s).answers = s.answers := rfl
@[simp] theorem setPend_schedule : (setPend p s).schedule = s.schedule := rfl
@[simp] theorem setPend_busLog : (setPend p s).busLog = s.busLog := rfl

end setPend

section clearCarrierOn
/-! `STATUS.CARRIER_ON <- 0` (R146). -/

variable (s : State)

@[simp] theorem clearCarrierOn_cmd : (clearCarrierOn s).cmd = s.cmd := rfl
@[simp] theorem clearCarrierOn_frameReady : (clearCarrierOn s).frameReady = s.frameReady := rfl
@[simp] theorem clearCarrierOn_carrierOn : (clearCarrierOn s).carrierOn = false := rfl
@[simp] theorem clearCarrierOn_drain : (clearCarrierOn s).drain = s.drain := rfl
@[simp] theorem clearCarrierOn_txState : (clearCarrierOn s).txState = s.txState := rfl
@[simp] theorem clearCarrierOn_err : (clearCarrierOn s).err = s.err := rfl
@[simp] theorem clearCarrierOn_pulse : (clearCarrierOn s).pulse = s.pulse := rfl
@[simp] theorem clearCarrierOn_pair : (clearCarrierOn s).pair = s.pair := rfl
@[simp] theorem clearCarrierOn_frameWord : (clearCarrierOn s).frameWord = s.frameWord := rfl
@[simp] theorem clearCarrierOn_rxWord : (clearCarrierOn s).rxWord = s.rxWord := rfl
@[simp] theorem clearCarrierOn_rxResult : (clearCarrierOn s).rxResult = s.rxResult := rfl
@[simp] theorem clearCarrierOn_hwErr : (clearCarrierOn s).hwErr = s.hwErr := rfl
@[simp] theorem clearCarrierOn_pend : (clearCarrierOn s).pend = s.pend := rfl
@[simp] theorem clearCarrierOn_callLog : (clearCarrierOn s).callLog = s.callLog := rfl
@[simp] theorem clearCarrierOn_host : (clearCarrierOn s).host = s.host := rfl
@[simp] theorem clearCarrierOn_answers : (clearCarrierOn s).answers = s.answers := rfl
@[simp] theorem clearCarrierOn_schedule : (clearCarrierOn s).schedule = s.schedule := rfl
@[simp] theorem clearCarrierOn_busLog : (clearCarrierOn s).busLog = s.busLog := rfl

end clearCarrierOn

section reportHardware
/-! HARDWARE with HWERR (R146). -/

variable (p : Pend) (s : State)

@[simp] theorem reportHardware_cmd : (reportHardware p s).cmd = s.cmd := rfl
@[simp] theorem reportHardware_frameReady : (reportHardware p s).frameReady = s.frameReady := rfl
@[simp] theorem reportHardware_carrierOn : (reportHardware p s).carrierOn = s.carrierOn := rfl
@[simp] theorem reportHardware_drain : (reportHardware p s).drain = s.drain := rfl
@[simp] theorem reportHardware_txState : (reportHardware p s).txState = s.txState := rfl
@[simp] theorem reportHardware_err : (reportHardware p s).err = ErrCode.hardware.code := rfl
@[simp] theorem reportHardware_pulse : (reportHardware p s).pulse = s.pulse := rfl
@[simp] theorem reportHardware_pair : (reportHardware p s).pair = s.pair := rfl
@[simp] theorem reportHardware_frameWord : (reportHardware p s).frameWord = s.frameWord := rfl
@[simp] theorem reportHardware_rxWord : (reportHardware p s).rxWord = s.rxWord := rfl
@[simp] theorem reportHardware_rxResult : (reportHardware p s).rxResult = s.rxResult := rfl
@[simp] theorem reportHardware_hwErr : (reportHardware p s).hwErr = hwErrOf p := rfl
@[simp] theorem reportHardware_pend : (reportHardware p s).pend = s.pend := rfl
@[simp] theorem reportHardware_callLog : (reportHardware p s).callLog = s.callLog := rfl
@[simp] theorem reportHardware_host : (reportHardware p s).host = s.host := rfl
@[simp] theorem reportHardware_answers : (reportHardware p s).answers = s.answers := rfl
@[simp] theorem reportHardware_schedule : (reportHardware p s).schedule = s.schedule := rfl
@[simp] theorem reportHardware_busLog : (reportHardware p s).busLog = s.busLog := rfl

end reportHardware

section endTransmit
/-! the last lines of R146. -/

variable (s : State)

@[simp] theorem endTransmit_cmd : (endTransmit s).cmd = s.cmd := rfl
@[simp] theorem endTransmit_frameReady : (endTransmit s).frameReady = s.frameReady := rfl
@[simp] theorem endTransmit_carrierOn : (endTransmit s).carrierOn = s.carrierOn := rfl
@[simp] theorem endTransmit_drain : (endTransmit s).drain = false := rfl
@[simp] theorem endTransmit_txState : (endTransmit s).txState = .idle := rfl
@[simp] theorem endTransmit_err : (endTransmit s).err = s.err := rfl
@[simp] theorem endTransmit_pulse : (endTransmit s).pulse = s.pulse := rfl
@[simp] theorem endTransmit_pair : (endTransmit s).pair = s.pair := rfl
@[simp] theorem endTransmit_frameWord : (endTransmit s).frameWord = s.frameWord := rfl
@[simp] theorem endTransmit_rxWord : (endTransmit s).rxWord = s.rxWord := rfl
@[simp] theorem endTransmit_rxResult : (endTransmit s).rxResult = s.rxResult := rfl
@[simp] theorem endTransmit_hwErr : (endTransmit s).hwErr = s.hwErr := rfl
@[simp] theorem endTransmit_pend : (endTransmit s).pend = none := rfl
@[simp] theorem endTransmit_callLog : (endTransmit s).callLog = s.callLog := rfl
@[simp] theorem endTransmit_host : (endTransmit s).host = s.host := rfl
@[simp] theorem endTransmit_answers : (endTransmit s).answers = s.answers := rfl
@[simp] theorem endTransmit_schedule : (endTransmit s).schedule = s.schedule := rfl
@[simp] theorem endTransmit_busLog : (endTransmit s).busLog = s.busLog := rfl

end endTransmit

section storeReg
/-! A store to a register other than CMD (20_memory R55). -/

variable (r : Reg) (v : Word) (s : State)

@[simp] theorem storeReg_cmd : (storeReg r v s).cmd = s.cmd := by cases r <;> rfl
@[simp] theorem storeReg_carrierOn : (storeReg r v s).carrierOn = s.carrierOn := by cases r <;> rfl
@[simp] theorem storeReg_drain : (storeReg r v s).drain = s.drain := by cases r <;> rfl
@[simp] theorem storeReg_txState : (storeReg r v s).txState = s.txState := by cases r <;> rfl
@[simp] theorem storeReg_err : (storeReg r v s).err = s.err := by cases r <;> rfl
@[simp] theorem storeReg_pair : (storeReg r v s).pair = s.pair := by cases r <;> rfl
@[simp] theorem storeReg_frameWord : (storeReg r v s).frameWord = s.frameWord := by cases r <;> rfl
@[simp] theorem storeReg_rxResult : (storeReg r v s).rxResult = s.rxResult := by cases r <;> rfl
@[simp] theorem storeReg_hwErr : (storeReg r v s).hwErr = s.hwErr := by cases r <;> rfl
@[simp] theorem storeReg_pend : (storeReg r v s).pend = s.pend := by cases r <;> rfl
@[simp] theorem storeReg_callLog : (storeReg r v s).callLog = s.callLog := by cases r <;> rfl
@[simp] theorem storeReg_host : (storeReg r v s).host = s.host := by cases r <;> rfl
@[simp] theorem storeReg_answers : (storeReg r v s).answers = s.answers := by cases r <;> rfl
@[simp] theorem storeReg_schedule : (storeReg r v s).schedule = s.schedule := by cases r <;> rfl
@[simp] theorem storeReg_busLog : (storeReg r v s).busLog = s.busLog := by cases r <;> rfl

end storeReg

section busy
/-! BUSY follows TXSTATE alone (R24). -/

theorem busy_eq_false {s : State} : s.busy = false ↔ s.txState = .idle := by simp [State.busy]

theorem busy_eq_true {s : State} : s.busy = true ↔ s.txState ≠ .idle := by simp [State.busy]

/-- States with one TXSTATE have one BUSY. -/
theorem busy_congr {s t : State} (h : s.txState = t.txState) : s.busy = t.busy := by simp [State.busy, h]

end busy

end Sys2Proof.Machine
end

