-- ==== Sys2Proof/Laws/Ops.lean ====
section
/-! SUPPORT. One lemma per shared operation that says what it can do: the register map, a store, the sequencer's reactions,
the operations, and each agent's turn. -/

namespace Sys2Proof.Machine

/-- The register map is the table of 20_memory R51, read from the register's side. -/
@[simp] theorem regAt_regOffset (r : Reg) : regAt (regOffset r) = some r := by
  cases r with
  | pulse k =>
    have hk := k.isLt
    change regAt (0x100 + 4 * k.val) = _
    unfold regAt
    split_ifs <;> first | omega | (simp only [Option.some.injEq, Reg.pulse.injEq, Fin.ext_iff]; omega)
  | _ => rfl

/-- Only the offset of a register reaches it (20_memory R51). -/
theorem regAt_eq_some {off : Nat} {r : Reg} : regAt off = some r ↔ off = regOffset r := by
  constructor
  · intro h
    unfold regAt at h
    split_ifs at h
    all_goals cases h
    all_goals first
      | assumption
      | (simp only [regOffset]; omega)
  · rintro rfl
    simp

/-- An access is admitted exactly when it is a 32-bit access to a register's offset (20_memory R52, R53). -/
theorem admitted_eq_some {off : Nat} {w : AccessWidth} {r : Reg} :
    admitted off w = some r ↔ w = .word ∧ off = regOffset r := by
  cases w <;> simp [admitted, regAt_eq_some]

/-- A store changes RXWORD, or one pulse entry and FRAME_READY, or nothing (20_memory R55). -/
theorem storeReg_cases (r : Reg) (v : Word) (s : State) :
    storeReg r v s = setRxWord v s ∨
    (∃ k : Fin 67, r = .pulse k ∧
      storeReg r v s = { s with pulse := s.pulse.set k.val (v.extractLsb' 0 16), frameReady := false }) ∨
    storeReg r v s = s := by
  cases r with
  | rxWord => exact .inl rfl
  | pulse k => exact .inr (.inl ⟨k, rfl, rfl⟩)
  | _ => exact .inr (.inr rfl)

/-- Recording a response touches PEND only, and leaves it as it is while DRAIN = 1 (43_transmit R147). -/
theorem recordResponse_eq (r : Response) (k : BitVec 2) (s : State) :
    ∃ p, recordResponse r k s = setPend p s ∧ (s.drain = true → p = s.pend) := by
  cases r with
  | ok => exact ⟨s.pend, rfl, fun _ => rfl⟩
  | err e =>
    by_cases h : s.drain = false ∧ s.pend = none
    · exact ⟨some ⟨Config.hwErrEncoding e, k⟩, by simp only [recordResponse, recordError, if_pos h],
        fun h' => absurd h.1 (by simp [h'])⟩
    · exact ⟨s.pend, by simp only [recordResponse, recordError, if_neg h]; rfl, fun _ => rfl⟩

/-- Consuming a response with no call outstanding is no step (43_transmit R140). -/
theorem consumeAnswer_idle {s : State} (h : s.txState = .idle) (r : Response) : consumeAnswer r s = s := by
  simp [consumeAnswer, h]

/-- What the end of a transmission does (43_transmit R146): CARRIER_ON follows the last answer, and ERR and HWERR are kept
with DRAIN = 1, are NONE and kept without an error, and are HARDWARE and that error with one. -/
theorem onCarrierOffAnswer_cases (r : Response) (s : State) :
    ∃ e h c, onCarrierOffAnswer r s = endTransmit { s with err := e, hwErr := h, carrierOn := c } ∧
      c = (if r = .ok then false else s.carrierOn) ∧
      ((s.drain = true ∧ e = s.err ∧ h = s.hwErr) ∨
       (s.drain = false ∧ e = ErrCode.none.code ∧ h = s.hwErr) ∨
       (s.drain = false ∧ e = ErrCode.hardware.code ∧ ∃ p, h = hwErrOf p)) := by
  cases r with
  | ok =>
    cases hd : s.drain <;> cases hp : s.pend <;>
      exact ⟨_, _, _, by simp only [onCarrierOffAnswer, noteCarrierOff, reportOutcome, clearCarrierOn_drain,
        clearCarrierOn_pend, hd, hp]; rfl, rfl, by simp⟩
  | err x =>
    cases hd : s.drain <;> cases hp : s.pend <;>
      exact ⟨_, _, _, by simp [onCarrierOffAnswer, noteCarrierOff, reportOutcome, recordError, hd, hp]; rfl, rfl, by simp⟩

/-- The sequencer's reactions to a response while a call is outstanding (43_transmit R144 to R146): the pulse train is
handed over, or carrier-off is requested, or the transmission ends. -/
theorem consumeAnswer_cases {s : State} (hb : s.busy = true) (r : Response) :
    (s.txState = .waitCarrierOn ∧ r = .ok ∧ s.drain = false ∧ consumeAnswer r s = requestSend (logAnswer r s)) ∨
    ((s.txState = .waitCarrierOn ∨ s.txState = .waitSend) ∧
      ∃ p, (s.drain = true → p = s.pend) ∧ consumeAnswer r s = requestCarrierOff (setPend p (logAnswer r s))) ∨
    (s.txState = .waitCarrierOff ∧ consumeAnswer r s = onCarrierOffAnswer r (logAnswer r s)) := by
  unfold consumeAnswer
  cases ht : s.txState with
  | idle => exact absurd ht (busy_eq_true.mp hb)
  | waitCarrierOn =>
    by_cases h : r = .ok ∧ s.drain = false
    · exact .inl ⟨rfl, h.1, h.2, if_pos h⟩
    · obtain ⟨p, he, hp⟩ := recordResponse_eq r 1 (logAnswer r s)
      exact .inr (.inl ⟨.inl rfl, p, hp, (if_neg h).trans (congrArg requestCarrierOff he)⟩)
  | waitSend =>
    obtain ⟨p, he, hp⟩ := recordResponse_eq r 2 (logAnswer r s)
    exact .inr (.inl ⟨.inr rfl, p, hp, congrArg requestCarrierOff he⟩)
  | waitCarrierOff => exact .inr (.inr ⟨rfl, rfl⟩)

/-- The operations' effects: every accepted well-formed command does one of these five things (30_encoding R72). -/
inductive CommandEffect (s : State) : State → Prop
  | frame (a c : Byte) : CommandEffect s (emitFrame a c s)
  | error (e : ErrCode) (h : e ≠ .hardware) : CommandEffect s (raiseErr e s)
  | report (w x : Word) : CommandEffect s (reportWord w (setRxWord x s))
  | noFormat : CommandEffect s (setErr .none { s with rxResult := 0x00000000 })
  | start (h : s.frameReady = true) : CommandEffect s (startTransmit s)

/-- The tail of an intent operation frames a pair or records an error (40_intent_mapper R90, R96). -/
theorem finishIntent_effect (bld : Build) {e : ErrCode} (he : e ≠ .hardware) (c : Option Byte) (s : State) :
    CommandEffect s (finishIntent bld e c s) := by
  cases c with
  | none => exact .error e he
  | some c => exact .frame _ c

/-- Whatever the operation, its effect is one of the five. -/
theorem exec_effect {i : Instr} {s t : State} (h : exec i s = .next t) : CommandEffect s t := by
  cases i with
  | encPower b => cases h; exact .frame _ _
  | encMode m => cases h; exact finishIntent_effect _ (by decide) _ _
  | encTemp b => cases h; exact finishIntent_effect _ (by decide) _ _
  | encFan f => cases h; exact finishIntent_effect _ (by decide) _ _
  | encPair a c => cases h; exact .frame _ _
  | validateWord => cases h; exact .report s.rxWord s.rxWord
  | validatePulses =>
    simp only [exec, execValidatePulses] at h
    split at h <;> cases h
    · exact .report _ _
    · exact .noFormat
  | transmit =>
    simp only [exec, execTransmit] at h
    split at h <;> cases h
    · exact .start ‹_›
    · exact .error _ (by decide)

/-- Accepting a word writes CMD and then does one of the five things (30_encoding R71). -/
theorem acceptCommand_effect {v : Word} {s t : State} (h : acceptCommand v s = .next t) :
    CommandEffect (setCmd v s) t := by
  unfold acceptCommand at h
  split at h
  · exact exec_effect h
  · cases h; exact .error _ (by decide)

/-- An access that is not held records itself and, if it is a write, stores or starts an operation (20_memory R52 to R55). -/
theorem performAccess_cases {a : Access} {s t : State} (h : performAccess a s = .next t) :
    (∃ r, t = recordBus a r s) ∨
    (∃ r v, a = .write (regOffset r) .word v ∧ r ≠ .cmd ∧ t = storeReg r v (recordBus a .done s)) ∨
    (∃ v, a = .write (regOffset .cmd) .word v ∧ acceptCommand v (recordBus a .done s) = .next t) := by
  cases a with
  | read off w =>
    simp only [performAccess] at h
    split at h <;> cases h <;> exact .inl ⟨_, rfl⟩
  | write off w v =>
    simp only [performAccess] at h
    split at h
    · rename_i r hr
      obtain ⟨rfl, rfl⟩ := admitted_eq_some.mp hr
      by_cases hc : r = .cmd
      · subst hc
        exact .inr (.inr ⟨v, rfl, h⟩)
      · refine .inr (.inl ⟨r, v, rfl, hc, ?_⟩)
        unfold writeReg at h
        split at h
        · exact absurd rfl hc
        · cases h; rfl
    · cases h; exact .inl ⟨_, rfl⟩

/-- The host's turn: no step, an access that is not held, or a read of STATUS with the host's own list shortened. -/
theorem hostTurn_cases {s t : State} (h : hostTurn s = .next t) :
    t = s ∨
    (∃ a rest, s.host = .access a :: rest ∧ accessOffset a < windowSize ∧ s.holds a = false ∧
      performAccess a (setHost rest s) = .next t) ∨
    (∃ r l, t = recordBus statusRead r (setHost l s)) := by
  unfold hostTurn at h
  split at h
  · cases h; exact .inl rfl
  · rename_i a rest hl
    split_ifs at h with h1 h2
    · cases h; exact .inl rfl
    · exact .inr (.inl ⟨a, rest, hl, by omega, by simpa using h2, h⟩)
  · cases h; exact .inr (.inr ⟨_, _, rfl⟩)
  · cases h; exact .inr (.inr ⟨_, _, rfl⟩)

/-- The transmitter's turn: no step, or the answer to the outstanding call (43_transmit R140, R151). -/
theorem transmitterTurn_cases (s : State) :
    transmitterTurn s = s ∨
    (∃ r rest, s.answers = r :: rest ∧ s.busy = true ∧ transmitterTurn s = consumeAnswer r (setAnswers rest s)) := by
  unfold transmitterTurn
  split
  · split
    · exact .inl rfl
    · exact .inr ⟨_, _, ‹_›, ‹_›, rfl⟩
  · exact .inl rfl

/-- A step is the next turn of the schedule, and nothing when there is none. -/
theorem step_cases {s t : State} (h : step s = .next t) :
    (s.schedule = [] ∧ t = s) ∨
    (∃ turn rest, s.schedule = turn :: rest ∧ takeTurn turn (setSchedule rest s) = .next t) := by
  unfold step at h
  split at h
  · cases h; exact .inl ⟨‹_›, rfl⟩
  · exact .inr ⟨_, _, ‹_›, h⟩

/-- `holds` asks for BUSY (20_memory R56): a write that is admitted and not held finds the block idle. -/
theorem idle_of_not_holds {s : State} (r : Reg) (v : Word) (h : s.holds (.write (regOffset r) .word v) = false) :
    s.busy = false := by
  simpa [State.holds, admitted] using h

end Sys2Proof.Machine
end

