-- ==== Sys2Proof/Laws/PerInstr.lean ====
section
/-! SUPPORT. Per instruction: the encoding of a well-formed instruction lies in its row of the opcode map. -/

namespace Sys2Proof.Laws.EncodeInRow

/-- A well-formed instruction's word agrees with its row's match under its row's mask (R72). -/
def Statement (i : Instr) : Prop := i.wellFormed = true → encode i &&& i.rowMask = i.rowMatch

theorem encPower (b : Byte) : Statement (.encPower b) := by
  revert b; unfold Statement; decide

theorem encMode (m : Byte) : Statement (.encMode m) := by
  revert m; unfold Statement; decide

theorem encTemp (b : Byte) : Statement (.encTemp b) := by
  revert b; unfold Statement; decide

theorem encFan (f : Byte) : Statement (.encFan f) := by
  revert f; unfold Statement; decide

theorem encPair (a c : Byte) : Statement (.encPair a c) := fun _ => by
  have hand : ∀ v w : Word, ∀ k, (v &&& w).extractLsb' k 8 = v.extractLsb' k 8 &&& w.extractLsb' k 8 := fun v w k => by
    apply BitVec.eq_of_getLsbD_eq
    intro i hi
    simp only [BitVec.getLsbD_extractLsb', BitVec.getLsbD_and, hi, decide_true, Bool.true_and]
  have hz : ∀ b : Byte, b &&& 0 = 0 := by decide
  apply word_ext <;> rw [hand] <;> simp only [encode, commandWord, extract0_wordOfLanes, extract8_wordOfLanes,
    extract16_wordOfLanes, extract24_wordOfLanes, Instr.rowMask, Instr.rowMatch]
  · exact hz c
  · exact hz a
  · decide
  · decide

theorem validateWord : Statement .validateWord := by
  unfold Statement; decide

theorem validatePulses : Statement .validatePulses := by
  unfold Statement; decide

theorem transmit : Statement .transmit := by
  unfold Statement; decide

end Sys2Proof.Laws.EncodeInRow
end

