-- ==== Sys2Proof/Laws/Safety.lean ====
section
/-! SUPPORT. Which fields each safety predicate reads: it carries over to a state that agrees on them. -/

namespace Sys2Proof.Machine

variable {s t : State}

theorem frameCoherent_of_agree (hs : s.frameCoherent) (hf : t.frameReady = s.frameReady) (hp : t.pair = s.pair)
    (hw : t.frameWord = s.frameWord) (hu : t.pulse = s.pulse) : t.frameCoherent := by
  simpa only [State.frameCoherent, State.pairValid, State.pairAddr, State.pairCmd, hf, hp, hw, hu] using hs

theorem pairCoherent_of_agree (hs : s.pairCoherent) (hp : t.pair = s.pair) (hw : t.frameWord = s.frameWord) :
    t.pairCoherent := by
  simpa only [State.pairCoherent, State.pairValid, State.pairAddr, State.pairCmd, hp, hw] using hs

theorem reservedZero_of_agree (hs : s.reservedZero) (hp : t.pair = s.pair) (hr : t.rxResult = s.rxResult)
    (hh : t.hwErr = s.hwErr) : t.reservedZero := by
  simpa only [State.reservedZero, hp, hr, hh] using hs

theorem sequencerCoherent_of_agree (hs : s.sequencerCoherent) (hx : t.txState = s.txState) (hd : t.drain = s.drain)
    (hp : t.pend = s.pend) (hc : t.carrierOn = s.carrierOn) (he : t.err = s.err) (hh : t.hwErr = s.hwErr) :
    t.sequencerCoherent := by
  simpa only [State.sequencerCoherent, State.busy, hx, hd, hp, hc, he, hh] using hs

theorem callLogLegal_of_agree (hs : s.callLogLegal) (hl : t.callLog = s.callLog) (hx : t.txState = s.txState) :
    t.callLogLegal := by
  simpa only [State.callLogLegal, hl, hx] using hs

theorem onlyFramesSent_of_agree (hs : s.onlyFramesSent) (hl : t.callLog = s.callLog) : t.onlyFramesSent := by
  simpa only [State.onlyFramesSent, hl] using hs

/-- The phase of a log that goes on is the phase of its beginning, taken further. -/
theorem callPhase_append (l es : List LogEntry) :
    callPhase (l ++ es) = (callPhase l).bind fun p => es.foldlM callPhaseNext p := by
  simp [callPhase, List.foldlM_append]

end Sys2Proof.Machine
end

