-- ==== Sys2Proof/Tests/Slice0.lean ====
section
/-! SUPPORT. Tests. Every expected value is written out from spec/: the encodings of 30_encoding R72 and R77, and the vectors
of 95_test_vectors (named in each comment). Below them, one witness for each statement that has hypotheses. -/

namespace Sys2Proof.Machine.Tests

/-- A field of the next state, none when there is no next state. -/
def nextField {α : Type} (o : Host.Outcome State Fault Refusal) (f : State → α) : Option α :=
  match o with
  | .next s => some (f s)
  | .fault _ => none
  | .refused _ => none

/-- A block whose host has one access to make, and the next turn. -/
def issuing (a : Access) : State := { State.reset with host := [.access a], schedule := [.host] }

/-- A block about to accept a command word. -/
def commanded (w : Word) : State := issuing (.write 0x000 .word w)

/-- A block that holds an encoder frame, with the given sequencer state, and CARRIER_ON as in every busy state. -/
def framed (tx : TxState) : State := { emitFrame 0x00 0x08 State.reset with txState := tx, carrierOn := tx != .idle }

/-- A block that awaits an answer, with that answer and the transmitter's turn at hand. -/
def awaiting (tx : TxState) (r : Response) : State :=
  { framed tx with answers := [r], schedule := [.transmitter] }

/-! ## WellFormed: an ill-formed term for its one check (R71: B[7:1] of ENC_POWER) -/

theorem test_wellFormed_refuses_power_bits : (Instr.encPower 0x02).wellFormed = false := by decide

theorem test_wellFormed_accepts_power_on : (Instr.encPower 0x01).wellFormed = true := by decide

/-! ## Decode: words written out from R72 and R77, illegal words from 95_test_vectors L2.5 -/

theorem test_decode_encPower : decodeWord 0x01000001 = .ok (.encPower 0x01) := by decide

theorem test_decode_encMode : decodeWord 0x02000003 = .ok (.encMode 0x03) := by decide

theorem test_decode_encTemp : decodeWord 0x03000016 = .ok (.encTemp 0x16) := by decide

theorem test_decode_encFan : decodeWord 0x04000002 = .ok (.encFan 0x02) := by decide

theorem test_decode_encPair : decodeWord 0x0500A55A = .ok (.encPair 0xA5 0x5A) := by decide

theorem test_decode_validateWord : decodeWord 0x06000000 = .ok .validateWord := by decide

theorem test_decode_validatePulses : decodeWord 0x07000000 = .ok .validatePulses := by decide

theorem test_decode_transmit : decodeWord 0x08000000 = .ok .transmit := by decide

theorem test_decode_bytes_little_endian : decode [0x5A, 0xA5, 0x00, 0x05] = .ok (.encPair 0xA5 0x5A, []) := by decide

theorem test_decode_short : decode [0x5A, 0xA5, 0x00] = .error .tooShort := by decide

theorem test_decode_opcode_zero : decodeWord 0x00000000 = .error .reservedOpcode := by decide

theorem test_decode_opcode_nine : decodeWord 0x09000000 = .error .reservedOpcode := by decide

theorem test_decode_rsv : decodeWord 0x0501A55A = .error .reservedField := by decide

theorem test_decode_a : decodeWord 0x02000100 = .error .addressField := by decide

theorem test_decode_power : decodeWord 0x01000002 = .error .powerField := by decide

theorem test_decode_b : decodeWord 0x06000001 = .error .operandField := by decide

theorem test_decodeTableWord : decodeTableWord 32 0x0500A55A = some (.encPair 0xA5 0x5A) := by decide

theorem test_encode_encPair : encode (.encPair 0xA5 0x5A) = 0x0500A55A := by decide

/-! ## The operations, one step each from POR -/

/-- L2.1, enc.power on. -/
theorem test_encPower_on : nextField (step (commanded 0x01000001)) (fun t => (t.frameWord, t.pair, t.statusWord)) =
    some (0xF708FF00, 0x00010800, 0x00000002) := by decide

/-- L2.1, enc.power off. -/
theorem test_encPower_off : nextField (step (commanded 0x01000000)) (fun t => (t.frameWord, t.pair)) =
    some (0xF609FF00, 0x00010900) := by decide

/-- L2.1, enc.mode auto. -/
theorem test_encMode_auto : nextField (step (commanded 0x02000004)) (fun t => (t.frameWord, t.pair)) =
    some (0xCB34FF00, 0x00013400) := by decide

/-- L2.1, enc.mode #5. -/
theorem test_encMode_unknown : nextField (step (commanded 0x02000005)) (fun t => (t.pair, t.statusWord, t.cmd)) =
    some (0x00000000, 0x00000200, 0x02000005) := by decide

/-- L2.1, enc.temp 30. -/
theorem test_encTemp_30 : nextField (step (commanded 0x0300001E)) (fun t => (t.frameWord, t.statusWord)) =
    some (0xE11EFF00, 0x00000002) := by decide

/-- L2.1, enc.temp -1. -/
theorem test_encTemp_negative : nextField (step (commanded 0x030000FF)) State.statusWord = some 0x00000100 := by decide

/-- L2.1, enc.fan high. -/
theorem test_encFan_high : nextField (step (commanded 0x04000002)) State.frameWord = some 0xBD42FF00 := by decide

/-- L2.1, enc.fan #4. -/
theorem test_encFan_unknown : nextField (step (commanded 0x04000004)) State.statusWord = some 0x00000200 := by decide

/-- L2.2, the full frame of (0xA5, 0x5A), its first ten and last nine entries. -/
theorem test_encPair_pulses : nextField (step (commanded 0x0500A55A))
    (fun t => (t.frameWord, t.pulse.toList.take 10, t.pulse.toList.drop 58)) =
    some (0xA55A5AA5, [9000, 4500, 560, 1690, 560, 560, 560, 1690, 560, 560],
      [560, 560, 560, 1690, 560, 560, 560, 1690, 560]) := by decide

/-- E4: address 0x80 has its one-bit last in the address field. -/
theorem test_encPair_msb : nextField (step (commanded 0x05008000)) (fun t => (t.pulse[3], t.pulse[17], t.frameWord)) =
    some (560, 1690, 0xFF007F80) := by decide

/-- L2.3, VALIDATE_WORD on 0xCF30FE00. -/
theorem test_validateWord_bad_address :
    nextField (step { commanded 0x06000000 with rxWord := 0xCF30FE00 }) (fun t => (t.rxResult, t.err)) =
    some (0x00063000, 0x0) := by decide

/-- L2.3, VALIDATE_WORD on 0xA55A5AA5. -/
theorem test_validateWord_good :
    nextField (step { commanded 0x06000000 with rxWord := 0xA55A5AA5 }) State.rxResult = some 0x000F5AA5 := by decide

/-- L2.3, enc.mode cool with PULSE[3] <- 1690, then val.pulses. -/
theorem test_validatePulses_flip :
    nextField (step { commanded 0x07000000 with pulse := (necFrame 0x00 0x30).set 3 1690 })
      (fun t => (t.rxWord, t.rxResult)) = some (0xCF30FF01, 0x00063001) := by decide +kernel

/-- L2.3, PULSE[1] <- 2250: no NEC shape, RXWORD kept. -/
theorem test_validatePulses_header :
    nextField (step { commanded 0x07000000 with pulse := (necFrame 0x00 0x30).set 1 2250, rxWord := 0xCF30FF00 })
      (fun t => (t.rxWord, t.rxResult)) = some (0xCF30FF00, 0x00000000) := by decide

/-- L2.4, POR then transmit: NO_FRAME. -/
theorem test_transmit_no_frame : nextField (step (commanded 0x08000000)) (fun t => (t.statusWord, t.callLog)) =
    some (0x00000400, []) := by decide

/-- L2.4, transmit after enc.power on: STATUS 0x17, carrier-on outstanding. -/
theorem test_transmit_starts :
    nextField (step { framed .idle with host := [.access (.write 0x000 .word 0x08000000)], schedule := [.host] })
      (fun t => (t.statusWord, t.outstanding)) = some (0x00000017, some (.setCarrier 38000 500)) := by decide

/-! ## The sequencer, RST and the bus -/

/-- L2.4, Ok in WAIT_CARRIER_ON: STATUS 0x27 and the frame is handed over. -/
theorem test_carrierOn_ok : nextField (step (awaiting .waitCarrierOn .ok)) (fun t => (t.statusWord, t.outstanding)) =
    some (0x00000027, some (.sendPulses (necFrame 0x00 0x08))) := by decide

/-- L2.4, Ok in WAIT_SEND: STATUS 0x37. -/
theorem test_send_ok : nextField (step (awaiting .waitSend .ok)) (fun t => (t.statusWord, t.outstanding)) =
    some (0x00000037, some (.setCarrier 0 0)) := by decide

/-- L2.4, Ok in WAIT_CARRIER_OFF with the sample error (0x03, step 1) pending: STATUS 0x502, HWERR 0x103. -/
theorem test_carrierOff_reports :
    nextField (step { awaiting .waitCarrierOff .ok with pend := some ⟨0x03, 1⟩ }) (fun t => (t.statusWord, t.hwErr)) =
    some (0x00000502, 0x00000103) := by decide

/-- L2.7, RST in WAIT_SEND: STATUS 0x2D, PULSE and PAIR 0. -/
theorem test_rst_drains :
    nextField (step { framed .waitSend with schedule := [.rst] }) (fun t => (t.statusWord, t.pair, t.pulse[0])) =
    some (0x0000002D, 0x00000000, 0) := by decide

/-- L2.7, a failed carrier-off during the drain: STATUS 0x00000004. -/
theorem test_drain_failed_off :
    nextField (step { awaiting .waitCarrierOff (.err .busy) with drain := true, frameReady := false })
      (fun t => (t.statusWord, t.hwErr)) = some (0x00000004, 0x00000000) := by decide

/-- L2.6, wr 0x10C, 0xABCD1234. -/
theorem test_pulse_write : nextField (step (issuing (.write 0x10C .word 0xABCD1234)))
    (fun t => (t.pulse[3], t.frameReady)) = some (0x1234, false) := by decide

/-- L2.6, rd 0x01C. -/
theorem test_read_carrier : nextField (step (issuing (.read 0x01C .word))) State.busLog =
    some [⟨.read 0x01C .word, .data 0x01F49470⟩] := by decide

/-- L2.6, rd 0x20C and a 16-bit read at 0x004. -/
theorem test_bus_error : nextField (step (issuing (.read 0x20C .word))) State.busLog =
    some [⟨.read 0x20C .word, .busError⟩] := by decide

theorem test_half_read : nextField (step (issuing (.read 0x004 .half))) State.busLog =
    some [⟨.read 0x004 .half, .busError⟩] := by decide

/-- R77: the assembler's words. -/
theorem test_assemble : assemble (.encTemp (-1)) = some 0x030000FF ∧ assemble (.encTemp 200) = none := by decide

/-- The interface: the very next step runs the word, and a full frame word comes out. -/
theorem test_withFetchWord :
    nextField (step (State.reset.withFetchWord 32 0x05000102)) (fun t => (t.cmd, t.frameWord)) =
    some (0x05000102, 0xFD02FE01) := by decide

/-! ## Witnesses: states and operands that meet the hypotheses of each statement -/

theorem witness_DecodeEncodeRoundTrip : (Instr.encPower 0x01).wellFormed = true ∧ (Instr.encPair 0xFF 0xFF).wellFormed = true :=
  ⟨rfl, rfl⟩

theorem witness_EncodeDecodeRoundTrip : decodeWord 0x0500FFFF = .ok (.encPair 0xFF 0xFF) := by decide

/-- Both clauses of EveryWordDispatchesOrRaises, at the edges: opcode 0x00 and 0x09 fail, opcode 0x01 with B = 1 passes. -/
theorem witness_EveryWordDispatchesOrRaises :
    ((0x09000000 : Word) >>> 24).toNat = 9 ∧ ((0x00000000 : Word) >>> 24).toNat = 0 ∧
    ((0x01000001 : Word) >>> 24).toNat = 1 ∧ ((0x01000001 : Word) >>> 16).toNat % 256 = 0 ∧
    ((0x01000001 : Word).extractLsb' 8 8 : Byte) = 0 ∧ ((0x01000001 : Word).extractLsb' 0 8 : Byte).toNat = 1 := by decide

theorem witness_StepRunsDecodedCommand :
    (commanded 0x0500A55A).issues (.write 0x000 .word 0x0500A55A) [] [] ∧ (commanded 0x0500A55A).busy = false ∧
    decodeWord 0x0500A55A = .ok (.encPair 0xA5 0x5A) := ⟨⟨rfl, rfl⟩, rfl, by decide⟩

theorem witness_StepRunsDecodedCommand_illegal :
    (commanded 0x01010001).issues (.write 0x000 .word 0x01010001) [] [] ∧ (commanded 0x01010001).busy = false ∧
    decodeWord 0x01010001 = .error .reservedField := ⟨⟨rfl, rfl⟩, rfl, by decide⟩

theorem witness_ReadsReturnRegisters :
    (issuing (.read (regOffset (.pulse 66)) .word)).issues (.read (regOffset (.pulse 66)) .word) [] [] := ⟨rfl, rfl⟩

theorem witness_WritesActByOffset (off : Nat) (v : Word) :
    (issuing (.write off .word v)).issues (.write off .word v) [] [] ∧ (issuing (.write off .word v)).busy = false :=
  ⟨⟨rfl, rfl⟩, rfl⟩

/-- The clauses of WritesActByOffset at their edges: the last pulse entry, and a read-only register. -/
theorem witness_WritesActByOffset_clauses :
    (0x208 : Nat) = 0x100 + 4 * (66 : Fin 67).val ∧ (0x01C : Nat) ∈ [0x004, 0x008, 0x00C, 0x014, 0x018, 0x01C] := by decide

/-- The clauses of RefusedAccessesChangeNothing at their edges: a half access, a misaligned word, the first and last unmapped
offsets of both holes; each issued. -/
theorem witness_RefusedAccessesChangeNothing :
    AccessWidth.half ≠ .word ∧ 0x002 % 4 ≠ 0 ∧ (0x020 ≤ 0x020 ∧ 0x020 ≤ 0x0FC) ∧ (0x020 ≤ 0x0FC ∧ 0x0FC ≤ 0x0FC) ∧
    0x20C ≤ 0x20C ∧ 0x20C ≤ 0xFFC ∧ 0xFFC < 0x1000 ∧
    (issuing (.write 0xFFC .word 1)).issues (.write 0xFFC .word 1) [] [] := ⟨by decide, by decide, by decide, by decide,
      by decide, by decide, by decide, rfl, rfl⟩

/-- A busy block whose host has a write to RXWORD to make, with two host turns. -/
def holding : State :=
  { framed .waitSend with host := [.access (.write 0x010 .word 5)], schedule := [.host, .host] }

theorem witness_BusyHoldsWrites :
    holding.busy = true ∧ holding.schedule = List.replicate 2 .host ++ [] ∧
    holding.host = .access (.write (regOffset .rxWord) .word 5) :: [] := ⟨rfl, rfl, rfl⟩

/-- HostCannotDisturbTransmission: a busy block whose host reads STATUS, a step that answers a next state. -/
def reading : State := { framed .waitSend with host := [.access (.read 0x004 .word)], schedule := [.host] }

theorem witness_HostCannotDisturbTransmission :
    reading.busy = true ∧ reading.schedule = .host :: [] ∧ ∃ t, step reading = .next t := ⟨rfl, rfl, _, rfl⟩

theorem witness_OutsideWindowFaults :
    0x1000 ≤ 0x1000 ∧ (issuing (.read 0x1000 .word)).issues (.read 0x1000 .word) [] [] := ⟨by decide, rfl, rfl⟩

theorem witness_WindowStartsAtBlockBase : 0xFFF < 0x1000 ∧ 0x1000 ≤ 0x1000 := by decide

theorem witness_LittleEndianLanes : (0x020 ≤ 0x0FF ∧ 0x0FF ≤ 0x0FF) ∧ 0x20C ≤ 0x20C := by decide

/-- Both clauses of EncModeFramesOrRejects and of EncFanFramesOrRejects at their edges. -/
theorem witness_EncMode_EncFan_clauses :
    (4 : Byte).toNat < 5 ∧ 5 ≤ (5 : Byte).toNat ∧ 5 ≤ (255 : Byte).toNat ∧ (3 : Byte).toNat < 4 ∧ 4 ≤ (4 : Byte).toNat := by
  decide

/-- Both clauses of EncTempFramesOrRejects at their edges, B = 0x80 being -128. -/
theorem witness_EncTemp_clauses :
    (16 ≤ (0x10 : Byte).toInt ∧ (0x10 : Byte).toInt ≤ 30) ∧ (16 ≤ (0x1E : Byte).toInt ∧ (0x1E : Byte).toInt ≤ 30) ∧
    (0x0F : Byte).toInt < 16 ∧ 30 < (0x1F : Byte).toInt ∧ (0x80 : Byte).toInt < 16 := by decide

theorem witness_ValidatePulsesReports :
    HasNecShape (framed .idle).pulse ∧ ¬ HasNecShape State.reset.pulse := by
  unfold HasNecShape; decide

theorem witness_TransmitStartsOrRejects : (framed .idle).frameReady = true ∧ State.reset.frameReady = false := ⟨rfl, rfl⟩

/-- WindowBytesFrame: bytes that each clause leaves alone, at its edges. -/
theorem witness_WindowBytesFrame :
    ¬ (0x004 ≤ 0x003 ∧ 0x003 < 0x008) ∧ ¬ (0x008 ≤ 0x010 ∧ 0x010 < 0x010) ∧ ¬ (0x100 ≤ 0x20C ∧ 0x20C < 0x20C) ∧
    ¬ (0x014 ≤ 0x013 ∧ 0x013 < 0x018) ∧ ¬ (0x010 ≤ 0x018 ∧ 0x018 < 0x018) ∧ ¬ (0x018 ≤ 0x01C ∧ 0x01C < 0x01C) := by
  decide

/-- BuildParametersRespected: the default build, and one at the edge of R4's constraint. -/
theorem witness_BuildParametersRespected :
    defaultBuild.wf ∧ { defaultBuild with tempBase := 0xF1 : Build }.wf := by decide

theorem witness_ErrorsChangeOnlyCmdAndErr :
    ∃ t, acceptCommand 0x03000000 State.reset = .next t ∧ t.err ≠ 0x0 := ⟨_, rfl, by decide⟩

theorem witness_AccessesAreIdempotent :
    (0x02000000 : Word) ≠ 0x08000000 ∧ (∃ t, acceptCommand 0x02000000 State.reset = .next t) ∧
    (framed .idle).frameReady = true := ⟨by decide, ⟨_, rfl⟩, rfl⟩

theorem witness_FrameShape : (66 < 67 ∧ 66 % 2 = 0 ∧ 2 ≤ 66) ∧ (65 < 67 ∧ 65 % 2 = 1 ∧ 3 ≤ 65) := by decide

theorem witness_FrameDeterminesPair : necFrame 0x00 0x30 = necFrame 0x00 0x30 := rfl

theorem witness_DecodePulsesExact : HasNecShape (necFrame 0x00 0x30) ∧ ¬ HasNecShape (Vector.replicate 67 0) := by
  unfold HasNecShape; decide

theorem witness_ValidatorRoundTrip : (framed .idle).pulse = necFrame 0x00 0x08 := rfl

/-- ValidatorDetection's last clause: a wrong mark, a wrong header space and a wrong data space. -/
theorem witness_ValidatorDetection :
    ((1000 : Duration) ≠ (necFrame 0x00 0x30)[4] ∧ 4 % 2 = 0) ∧ (2250 : Duration) ≠ (necFrame 0x00 0x30)[1] ∧
    ((1000 : Duration) ≠ (necFrame 0x00 0x30)[5] ∧ (1000 : Duration) ≠ 560 ∧ (1000 : Duration) ≠ 1690) := by decide

/-- CarrierOnAnswered: both clauses, the second by an error and by DRAIN = 1. -/
theorem witness_CarrierOnAnswered :
    (awaiting .waitCarrierOn .ok).txState = .waitCarrierOn ∧ (awaiting .waitCarrierOn .ok).answersNext .ok [] [] ∧
    (awaiting .waitCarrierOn .ok).drain = false ∧ (Response.err .busy ≠ .ok) ∧
    { awaiting .waitCarrierOn .ok with drain := true : State }.drain = true := ⟨rfl, ⟨rfl, rfl⟩, rfl, by decide, rfl⟩

theorem witness_SendAnswered :
    (awaiting .waitSend (.err .busy)).txState = .waitSend ∧ (awaiting .waitSend (.err .busy)).answersNext (.err .busy) [] [] :=
  ⟨rfl, rfl, rfl⟩

/-- CarrierOffAnswered: DRAIN = 1; DRAIN = 0 with nothing recorded; DRAIN = 0 with an error. -/
theorem witness_CarrierOffAnswered :
    (awaiting .waitCarrierOff .ok).txState = .waitCarrierOff ∧ (awaiting .waitCarrierOff .ok).answersNext .ok [] [] ∧
    { awaiting .waitCarrierOff .ok with drain := true : State }.drain = true ∧
    (awaiting .waitCarrierOff .ok).drain = false ∧ (awaiting .waitCarrierOff .ok).pendAfter .ok 3 = none ∧
    (awaiting .waitCarrierOff (.err .busy)).pendAfter (.err .busy) 3 = some ⟨Config.hwErrEncoding .busy, 3⟩ :=
  ⟨rfl, ⟨rfl, rfl⟩, rfl, rfl, rfl, rfl⟩

theorem witness_TransmitterMayStaySilent :
    { framed .waitSend with schedule := [.transmitter] : State }.answers = [] ∧ (framed .idle).txState = .idle ∧
    { framed .waitSend with schedule := [.transmitter] : State }.schedule = List.replicate 1 .transmitter ++ [] :=
  ⟨rfl, rfl, rfl⟩

/-- A block with a frame, a host program that issues a TRANSMIT and then one held write, and three answers. -/
def transmitting (r : Response) (sch : List Turn) : State :=
  { framed .idle with
    host := [.access (.write 0x000 .word 0x08000000), .access (.write 0x010 .word 1)]
    answers := [r, .ok, .ok]
    schedule := sch }

theorem witness_TransmitOutcomeTable :
    (transmitting .ok []).txState = .idle ∧ (transmitting .ok []).drain = false ∧
    (transmitting .ok []).frameReady = true ∧
    (transmitting .ok []).host = .access (.write 0x000 .word 0x08000000) :: [.access (.write 0x010 .word 1)] ∧
    (transmitting .ok []).hostInWindow ∧ (transmitting .ok []).answers = .ok :: .ok :: .ok :: [] ∧
    (transmitting (.err .busy) []).answers = .err .busy :: .ok :: [.ok] ∧
    (transmitting .ok [.host, .host, .transmitter, .transmitter, .host, .transmitter]).schedule =
      .host :: hostTurnsThenAnswer 1 (hostTurnsThenAnswer 0 (hostTurnsThenAnswer 1 [])) ∧
    (transmitting (.err .busy) [.host, .host, .transmitter, .transmitter]).schedule =
      .host :: hostTurnsThenAnswer 1 (hostTurnsThenAnswer 0 []) := by
  refine ⟨rfl, rfl, rfl, rfl, ?_, rfl, rfl, rfl, rfl⟩
  intro l hl
  simp only [transmitting, List.mem_cons, List.not_mem_nil, or_false] at hl
  rcases hl with rfl | rfl <;> decide

theorem witness_BlockResetStep : { framed .waitSend with schedule := [.rst] : State }.schedule = .rst :: [] := rfl

theorem witness_ResetDrainsTransmission :
    { framed .waitCarrierOff with schedule := [.rst, .transmitter], answers := [.ok] : State }.schedule =
      [.rst, .transmitter] ++ [] ∧
    { framed .waitSend with schedule := [.rst, .transmitter, .transmitter], answers := [.ok, .ok] : State }.answers =
      .ok :: .ok :: [] ∧ (framed .waitSend).txState = .waitSend ∧ (framed .waitCarrierOn).txState = .waitCarrierOn ∧
    (framed .waitCarrierOff).busy = true := ⟨rfl, rfl, rfl, rfl, rfl⟩

/-- The hypotheses of the step invariants: the state after POR meets them, and its step answers a next state; so does a
block that is about to run a command. -/
theorem witness_step_invariants :
    (commanded 0x02000000).registersCoherent ∧ (commanded 0x02000000).callLogLegal ∧
    (commanded 0x02000000).onlyFramesSent ∧ (commanded 0x02000000).sendReady ∧
    ∃ t, step (commanded 0x02000000) = .next t := by
  refine ⟨⟨?_, ?_, ?_, ?_, ?_⟩, rfl, ?_, ?_, ?_⟩
  · exact fun h => absurd h (by decide)
  · exact fun h => absurd h (by decide)
  · unfold State.reservedZero; decide
  · unfold State.errLegal; decide
  · unfold State.sequencerCoherent; decide
  · exact fun p hp => absurd hp (by simp [commanded, issuing, State.reset])
  · exact fun h => absurd h (by decide)
  · exact ⟨_, rfl⟩

theorem witness_EveryRunFromPowerOn :
    ∃ t, Host.Core.run Sys2Proof.core 1 (poweredOn [.access (.write 0x000 .word 0x02000000)] [.ok] [.host]) = .next t :=
  ⟨_, rfl⟩

/-- SendsOnlyUndrained, FrameReadyEvents, CarrierOnEvents: steps in which each event happens. -/
theorem witness_events :
    (∃ t, step (awaiting .waitCarrierOn .ok) = .next t ∧ t.txState = .waitSend) ∧
    (∃ t, step (commanded 0x02000000) = .next t ∧ t.frameReady = true) ∧
    (∃ t, step { framed .idle with schedule := [.rst] } = .next t ∧ t.frameReady = false) ∧
    (∃ t, step (transmitting .ok [.host]) = .next t ∧ t.carrierOn = true) ∧
    (∃ t, step (awaiting .waitCarrierOff .ok) = .next t ∧ t.carrierOn = false) :=
  ⟨⟨_, rfl, rfl⟩, ⟨_, rfl, rfl⟩, ⟨_, rfl, rfl⟩, ⟨_, rfl, rfl⟩, ⟨_, rfl, rfl⟩⟩

/-- AssemblerWords: the temperature clauses at their edges. -/
theorem witness_AssemblerWords : (-128 ≤ (-128 : Int) ∧ (-128 : Int) ≤ 127) ∧ (-128 ≤ (127 : Int)) ∧ (127 : Int) < 128 := by
  decide

/-- SendTempGuardsTransmit: the expansion exists at the edges of both clauses. -/
theorem witness_SendTempGuardsTransmit :
    (expand (.sendTemp 15)).isSome ∧ (expand (.sendTemp 16)).isSome ∧ (expand (.sendTemp 30)).isSome ∧
    (expand (.sendTemp 31)).isSome ∧ State.reset.busy = false := by decide

theorem witness_WaitIdlePolls :
    { State.reset with host := [.waitIdle], schedule := [.host] : State }.schedule = .host :: [] ∧
    { State.reset with host := [.waitIdle], schedule := [.host] : State }.host = .waitIdle :: [] := ⟨rfl, rfl⟩

end Sys2Proof.Machine.Tests
end

section
/-! PROOFS. A frame against its written-out shape: the entries of NecFrame by index, PAIR and FRAMEWORD as numbers, and
EmitFrame as `Framed` (41_frame_generator R100 to R104). -/

namespace Sys2Proof

/-- A word made of four bytes, as a number (20_memory R57). -/
theorem toNat_wordOfLanes (b0 b1 b2 b3 : Byte) :
    (wordOfLanes b0 b1 b2 b3).toNat = 0x1000000 * b3.toNat + 0x10000 * b2.toNat + 0x100 * b1.toNat + b0.toNat := by
  change (b3 ++ b2 ++ b1 ++ b0 : BitVec (8 + 8 + 8 + 8)).toNat = _
  have append_byte (n : Nat) (b : Byte) : n <<< 8 ||| b.toNat = 0x100 * n + b.toNat := by
    rw [Nat.shiftLeft_eq_mul_pow, Nat.mul_comm, ← Nat.two_pow_add_eq_or_of_lt b.isLt]
  simp only [BitVec.toNat_append, append_byte]
  omega

end Sys2Proof

namespace Sys2Proof.Machine

/-- The complement of a byte, as a number (R103). -/
theorem toNat_cpl (b : Byte) : (cpl b).toNat = 255 - b.toNat := by
  rw [cpl, BitVec.toNat_not]

theorem pairWord_eq_pairRegister (a c : Byte) : pairWord a c = pairRegister a c := by
  have ha := a.isLt
  have hc := c.isLt
  apply BitVec.eq_of_toNat_eq
  rw [pairWord, toNat_wordOfLanes, pairRegister, BitVec.toNat_ofNat, Nat.mod_eq_of_lt (by omega)]
  change 0x1000000 * 0 + 0x10000 * 1 + 0x100 * c.toNat + a.toNat = _
  omega

theorem frameWordOf_eq_frameRegister (a c : Byte) : frameWordOf a c = frameRegister a c := by
  have ha := a.isLt
  have hc := c.isLt
  apply BitVec.eq_of_toNat_eq
  rw [frameWordOf, toNat_wordOfLanes, frameRegister, BitVec.toNat_ofNat, Nat.mod_eq_of_lt (by omega), toNat_cpl, toNat_cpl]

@[simp] theorem bitPulses_length (b : Byte) : (bitPulses b).length = 16 := by
  simp [bitPulses, bitPulse]

/-- The even entries of a byte's pulses are marks (R101). -/
theorem bitPulses_mark (b : Byte) (i : Fin 8) : (bitPulses b)[2 * i.val]? = some 560 := by
  fin_cases i <;> rfl

/-- The odd entries of a byte's pulses are the spaces that carry its bits, bit 0 first (R101). -/
theorem bitPulses_space (b : Byte) (i : Fin 8) :
    (bitPulses b)[2 * i.val + 1]? = some (if b.getLsbD i.val then 1690 else 560) := by
  fin_cases i <;> rfl

/-- Field k of a frame takes the 16 entries from 2 + 16k (R100). -/
theorem necFrameList_field (a c : Byte) (k : Fin 4) {j : Nat} (hj : j < 16) :
    (necFrameList a c)[2 + 16 * k.val + j]? = (bitPulses (frameField a c k))[j]? := by
  have split_fields : necFrameList a c = [tHdrMark, tHdrSpace] ++ (bitPulses (frameField a c 0) ++
      (bitPulses (frameField a c 1) ++ (bitPulses (frameField a c 2) ++
      (bitPulses (frameField a c 3) ++ [tStopMark])))) := by
    simp only [necFrameList, frameField, cpl, List.append_assoc]
  have past_header : 2 + 16 * k.val + j = j + 16 * k.val + 2 := by omega
  rw [split_fields, past_header, List.getElem?_append_right (by simp)]
  fin_cases k <;> simp [List.getElem?_append, hj]

/-- An entry of the buffer is the entry of the list it is made of. -/
theorem necFrame_getElem_of_getElem? {a c : Byte} {n : Nat} {d : Duration} (hn : n < 67)
    (h : (necFrameList a c)[n]? = some d) : (necFrame a c)[n] = d :=
  (List.getElem?_eq_some_iff.mp h).2

theorem isFrame_necFrame (a c : Byte) : IsFrame a c (necFrame a c) := by
  refine ⟨rfl, rfl, rfl, fun k i => ⟨?_, ?_⟩⟩
  · apply necFrame_getElem_of_getElem?
    rw [necFrameList_field a c k (by omega), bitPulses_mark]
  · apply necFrame_getElem_of_getElem?
    have space_index : 3 + 16 * k.val + 2 * i.val = 2 + 16 * k.val + (2 * i.val + 1) := by omega
    rw [space_index, necFrameList_field a c k (by omega), bitPulses_space]

/-- EmitFrame does what R104 says and nothing else. -/
theorem framed_emitFrame (a c : Byte) (s : State) : Framed a c s (emitFrame a c s) := by
  refine ⟨?_, isFrame_necFrame a c⟩
  rw [← pairWord_eq_pairRegister, ← frameWordOf_eq_frameRegister]
  rfl

end Sys2Proof.Machine
end

section
/-! PROOFS. The intent operations of any build (40_intent_mapper R90 to R94): which operands have a command byte, and what
the common tail makes of it. -/

namespace Sys2Proof.Machine

/-- An intent with a command byte frames it with DEV_ADDR (R90). -/
theorem framed_finishIntent {c : Byte} {o : Option Byte} (h : o = some c) (bld : Build) (e : ErrCode) (s : State) :
    Framed bld.devAddr c s (finishIntent bld e o s) := by
  subst h
  exact framed_emitFrame _ c s

/-- An intent without a command byte records its error and nothing else (R96). -/
theorem finishIntent_of_eq_none {o : Option Byte} (h : o = none) (bld : Build) (e : ErrCode) (s : State) :
    finishIntent bld e o s = { s with err := e.code } := by
  subst h
  rfl

/-- Codes 5..255 stand for no mode (R74). -/
theorem modeOfCode_eq_none {m : Byte} (h : 5 ≤ m.toNat) : modeOfCode m = none := by
  unfold modeOfCode
  split
  case h_6 => rfl
  all_goals exact absurd h (by decide)

/-- Codes 4..255 stand for no fan speed (R74). -/
theorem fanOfCode_eq_none {f : Byte} (h : 4 ≤ f.toNat) : fanOfCode f = none := by
  unfold fanOfCode
  split
  case h_5 => rfl
  all_goals exact absurd h (by decide)

/-- Sign extension to 32 bits keeps the temperature (R75). -/
theorem tempOperand_eq_toInt (b : Byte) : tempOperand b = b.toInt :=
  BitVec.toInt_signExtend_of_le (by decide)

/-- Outside [16, 30] there is no command byte (R93). -/
theorem tempCommand_eq_none (bld : Build) {t : Int} (h : t < 16 ∨ 30 < t) : tempCommand bld t = none :=
  if_pos h

/-- Inside [16, 30] the command byte is TEMP_BASE + (t - 16): R4's constraint keeps the sum below 256, so that taking eight
bits of it loses nothing (R93). -/
theorem tempCommand_exact {bld : Build} (hwf : bld.wf) {t : Int} (hlo : 16 ≤ t) (hhi : t ≤ 30) :
    ∃ c : Byte, tempCommand bld t = some c ∧ (c.toNat : Int) = bld.tempBase.toNat + (t - 16) := by
  have in_range : ¬(t < tempMin ∨ tempMax < t) := by
    unfold tempMin tempMax
    omega
  have no_wrap : bld.tempBase.toNat + 14 ≤ 255 := hwf
  refine ⟨_, if_neg in_range, ?_⟩
  rw [BitVec.toNat_ofInt]
  omega

/-- Settles O27: each operand of the four intents goes through `framed_finishIntent` or `finishIntent_of_eq_none`. -/
theorem buildParametersRespected : Obligations.BuildParametersRespected := by
  intro bld s hwf
  refine ⟨fun b => framed_emitFrame _ _ s, ?modes, ?noMode, ?temp, ?noTemp, ?fans, ?noFan⟩
  case modes =>
    simp only [List.forall_mem_cons]
    refine ⟨?_, ?_, ?_, ?_, ?_, by simp⟩ <;> exact framed_finishIntent rfl ..
  case noMode =>
    intro m hm
    exact finishIntent_of_eq_none (by rw [modeOfCode_eq_none hm]; rfl) ..
  case temp =>
    intro b hlo hhi
    obtain ⟨c, hsome, hexact⟩ := tempCommand_exact hwf hlo hhi
    exact ⟨c, hexact, framed_finishIntent (by rw [tempOperand_eq_toInt, hsome]) ..⟩
  case noTemp =>
    intro b hb
    exact finishIntent_of_eq_none (by rw [tempOperand_eq_toInt, tempCommand_eq_none bld hb]) ..
  case fans =>
    simp only [List.forall_mem_cons]
    refine ⟨?_, ?_, ?_, ?_, by simp⟩ <;> exact framed_finishIntent rfl ..
  case noFan =>
    intro f hf
    exact finishIntent_of_eq_none (by rw [fanOfCode_eq_none hf]; rfl) ..

end Sys2Proof.Machine
end

section
/-! PROOFS. What one step can do to the block: the agents' own fields (the host's lines, the answers, the turns, the bus
record) put apart, it does nothing, stores, accepts a command, consumes an answer, or takes RST (00_scope R2). -/

namespace Sys2Proof.Machine

/-- The fields of the state that belong to the agents beside the core, and not to the block (log 6, log 7, log 10). -/
structure Agents where
  host     : List HostLine
  answers  : List Response
  schedule : List Turn
  busLog   : List BusRecord

/-- The block of `s` beside the agents `g`. -/
def State.withAgents (s : State) (g : Agents) : State :=
  { s with host := g.host, answers := g.answers, schedule := g.schedule, busLog := g.busLog }

section withAgents
/-! Other agents leave the block as it is: the two fields that later proofs rewrite by name. -/

variable (s : State) (g : Agents)

@[simp] theorem withAgents_txState : (s.withAgents g).txState = s.txState := rfl
@[simp] theorem withAgents_callLog : (s.withAgents g).callLog = s.callLog := rfl

end withAgents

/-- What a step from `s` can answer. -/
inductive StepEffect (s : State) : State → Prop
  /-- The block is untouched. -/
  | agents (g : Agents) : StepEffect s (s.withAgents g)
  /-- The host's write to a register other than CMD is performed (20_memory R55). -/
  | store {r : Reg} {v : Word} {q : List HostLine} {sch : List Turn} (g : Agents)
      (hissue : s.issues (.write (regOffset r) .word v) q sch) (hidle : s.busy = false) :
      StepEffect s (storeReg r v (s.withAgents g))
  /-- The host's write to CMD is performed (10_state R22). -/
  | command {w : Word} {q : List HostLine} {sch : List Turn} {t : State} (g : Agents)
      (hissue : s.issues (.write 0x000 .word w) q sch) (hidle : s.busy = false)
      (haccept : acceptCommand w (s.withAgents g) = .next t) : StepEffect s t
  /-- The outstanding call is answered (43_transmit R140). -/
  | answer (r : Response) (g : Agents) (hbusy : s.busy = true) : StepEffect s (consumeAnswer r (s.withAgents g))
  /-- RST (70_reset_and_hazards R190). -/
  | rst {sch : List Turn} (g : Agents) (hturn : s.schedule = .rst :: sch) : StepEffect s (blockReset (s.withAgents g))

/-- A host turn touches the agents, stores, or accepts a command. -/
theorem hostTurn_effect {s t : State} {sch : List Turn} (hturn : s.schedule = .host :: sch)
    (h : hostTurn (setSchedule sch s) = .next t) : StepEffect s t := by
  obtain rfl | ⟨a, q, hline, -, hfree, hperform⟩ | ⟨r, l, rfl⟩ := hostTurn_cases h
  case inl => exact .agents ⟨s.host, s.answers, sch, s.busLog⟩
  case inr.inr => exact .agents ⟨l, s.answers, sch, s.busLog ++ [⟨statusRead, r⟩]⟩
  case inr.inl =>
    obtain ⟨r, rfl⟩ | ⟨r, v, rfl, -, rfl⟩ | ⟨v, rfl, haccept⟩ := performAccess_cases hperform
    · exact .agents ⟨q, s.answers, sch, s.busLog ++ [⟨a, r⟩]⟩
    · exact .store ⟨q, s.answers, sch, _⟩ ⟨hturn, hline⟩ (idle_of_not_holds r v hfree)
    · exact .command ⟨q, s.answers, sch, _⟩ ⟨hturn, hline⟩ (idle_of_not_holds .cmd v hfree) haccept

/-- Every step is one of the five, whoever takes it. -/
theorem step_effect {s t : State} (h : step s = .next t) : StepEffect s t := by
  obtain ⟨-, rfl⟩ | ⟨turn, sch, hturn, htake⟩ := step_cases h
  · exact .agents ⟨t.host, t.answers, t.schedule, t.busLog⟩
  cases turn with
  | host => exact hostTurn_effect hturn htake
  | transmitter =>
    cases htake
    obtain hsame | ⟨r, as, -, hbusy, hanswer⟩ := transmitterTurn_cases (setSchedule sch s)
    · rw [hsame]
      exact .agents ⟨s.host, s.answers, sch, s.busLog⟩
    · rw [hanswer]
      exact .answer r ⟨s.host, as, sch, s.busLog⟩ hbusy
  | rst =>
    cases htake
    exact .rst ⟨s.host, s.answers, sch, s.busLog⟩ hturn

/-- A host turn whose access lies in the window and is not held performs it (20_memory R52 to R56). -/
theorem step_of_issues {s : State} {a : Access} {q : List HostLine} {sch : List Turn} (hissue : s.issues a q sch)
    (hwindow : accessOffset a < windowSize) (hfree : s.holds a = false) :
    step s = performAccess a (setHost q (setSchedule sch s)) := by
  obtain ⟨hturn, hline⟩ := hissue
  have hfree' : (setSchedule sch s).holds a = false := hfree
  simp only [step, hturn, takeTurn, hostTurn, setSchedule_host, hline, if_neg (Nat.not_le.mpr hwindow), hfree',
    Bool.false_eq_true, if_false]

/-- A write of CMD while idle is the acceptance of its word, in the same step (10_state R22). -/
theorem step_of_issues_cmd {s : State} {w : Word} {q : List HostLine} {sch : List Turn}
    (hissue : s.issues (.write 0x000 .word w) q sch) (hidle : s.busy = false) :
    step s = acceptCommand w (s.completed (.write 0x000 .word w) .done q sch) := by
  have hfree : s.holds (.write 0x000 .word w) = false := by simp [State.holds, hidle]
  exact step_of_issues hissue (show 0 < windowSize by decide) hfree

theorem acceptCommand_of_decode {w : Word} {i : Instr} (h : decodeWord w = .ok i) (s : State) :
    acceptCommand w s = exec i { s with cmd := w } := by
  rw [acceptCommand, h]
  rfl

theorem acceptCommand_of_illegal {w : Word} {e : DecodeError} (h : decodeWord w = .error e) (s : State) :
    acceptCommand w s = .next { s with cmd := w, err := 0x3 } := by
  rw [acceptCommand, h]
  rfl

/-- Settles O7: `step_of_issues_cmd`, then what acceptance does by what the word decodes to. -/
theorem stepRunsDecodedCommand : Obligations.StepRunsDecodedCommand := by
  intro s w q sch hissue hidle
  rw [step_of_issues_cmd hissue hidle]
  exact ⟨fun i hi => acceptCommand_of_decode hi _, fun e he => acceptCommand_of_illegal he _⟩

end Sys2Proof.Machine
end

section
/-! PROOFS. The register invariants of 10_state R39 under each of the five effects of a step. -/

namespace Sys2Proof

/-- A mask acts on each of a word's four bytes. -/
theorem and_wordOfLanes (a0 a1 a2 a3 b0 b1 b2 b3 : Byte) :
    wordOfLanes a0 a1 a2 a3 &&& wordOfLanes b0 b1 b2 b3 =
      wordOfLanes (a0 &&& b0) (a1 &&& b1) (a2 &&& b2) (a3 &&& b3) := by
  apply BitVec.eq_of_getLsbD_eq
  intro i _
  simp only [BitVec.getLsbD_and, getLsbD_wordOfLanes]
  split_ifs <;> rfl

end Sys2Proof

namespace Sys2Proof.Machine

section layouts
/-! The stored registers as the operations write them: their fields and their reserved bits. -/

theorem pairValid_emitFrame (a c : Byte) (s : State) : (emitFrame a c s).pairValid = true := by
  simp [State.pairValid, pairWord, getLsbD_wordOfLanes]

theorem pairAddr_emitFrame (a c : Byte) (s : State) : (emitFrame a c s).pairAddr = a :=
  extract0_wordOfLanes ..

theorem pairCmd_emitFrame (a c : Byte) (s : State) : (emitFrame a c s).pairCmd = c :=
  extract8_wordOfLanes ..

/-- PAIR [31:17] of a framed pair (10_state R31). -/
theorem pairWord_reserved (a c : Byte) : pairWord a c &&& 0xFFFE0000 = 0 := by
  have hmask : (0xFFFE0000 : Word) = wordOfLanes 0#8 0#8 0xFE 0xFF := by decide
  have hkept : (1 : Byte) &&& 0xFE = 0 ∧ (0 : Byte) &&& 0xFF = 0 := by decide
  rw [pairWord, hmask, and_wordOfLanes, hkept.1, hkept.2, BitVec.and_zero, BitVec.and_zero]
  rfl

/-- RXRESULT [31:20] of a checked word (10_state R34). -/
theorem rxResultOf_reserved (w : Word) : rxResultOf w &&& 0xFFF00000 = 0 := by
  have hmask : (0xFFF00000 : Word) = wordOfLanes 0#8 0#8 0xF0 0xFF := by decide
  have hflags : rxFlagsOf w &&& 0xF0 = 0 := by
    unfold rxFlagsOf
    generalize addrOk w = p
    generalize cmdOk w = q
    revert p q
    decide
  rw [rxResultOf, hmask, and_wordOfLanes, hflags, BitVec.and_zero, BitVec.and_zero]
  rfl

/-- HWERR [31:10] of a recorded error (10_state R35). -/
theorem hwErrOf_reserved (p : Pend) : hwErrOf p &&& 0xFFFFFC00 = 0 := by
  have hmask : (0xFFFFFC00 : Word) = wordOfLanes 0#8 0xFC 0xFF 0xFF := by decide
  have hstep : ∀ k : BitVec 2, k.zeroExtend 8 &&& (0xFC : Byte) = 0 := by decide
  rw [hwErrOf, hmask, and_wordOfLanes, hstep, BitVec.and_zero]
  rfl

/-- Every outcome's code is one of 0x0 to 0x5 (60_exceptions R170). -/
theorem code_le_five (e : ErrCode) : e.code ≤ 0x5#4 := by
  cases e <;> decide

end layouts

section sequencer
/-! What the sequencer's invariant asks, by BUSY. -/

variable {s t : State}

/-- A coherent idle block neither drains nor keeps an error. -/
theorem sequencerCoherent_iff_of_idle (h : s.busy = false) :
    s.sequencerCoherent ↔ s.drain = false ∧ s.pend = none := by
  simp [State.sequencerCoherent, h]

/-- While idle only DRAIN and PEND are bound. -/
theorem sequencerCoherent_of_idle (hs : s.sequencerCoherent) (hidle : s.busy = false) (hidle' : t.busy = false)
    (hd : t.drain = s.drain) (hp : t.pend = s.pend) : t.sequencerCoherent := by
  rw [sequencerCoherent_iff_of_idle hidle', hd, hp]
  exact (sequencerCoherent_iff_of_idle hidle).mp hs

/-- A running block is coherent exactly when it has Start()'s marks and keeps no error while it drains. -/
theorem sequencerCoherent_iff_of_busy (h : s.busy = true) :
    s.sequencerCoherent ↔
      (s.pend ≠ none → s.drain = false) ∧ s.carrierOn = true ∧ s.err = ErrCode.none.code ∧ s.hwErr = 0 := by
  simp [State.sequencerCoherent, h]

end sequencer

section effects
variable {s t : State}

theorem storeReg_keeps_registersCoherent (r : Reg) (v : Word) (hs : s.registersCoherent) :
    (storeReg r v s).registersCoherent := by
  obtain hrx | ⟨k, -, hpulse⟩ | hsame := storeReg_cases r v s
  · rw [hrx]
    exact hs
  · obtain ⟨-, hrest⟩ := hs
    rw [hpulse]
    exact ⟨fun hready => absurd hready Bool.false_ne_true, hrest⟩
  · rwa [hsame]

theorem emitFrame_registersCoherent (a c : Byte) (hidle : s.busy = false) (hs : s.registersCoherent) :
    (emitFrame a c s).registersCoherent := by
  obtain ⟨-, -, ⟨-, hrx, hhw⟩, -, hseq⟩ := hs
  have hword : (emitFrame a c s).frameWord =
      frameWordOf (emitFrame a c s).pairAddr (emitFrame a c s).pairCmd := by
    rw [pairAddr_emitFrame, pairCmd_emitFrame, emitFrame_frameWord]
  have hpulse : (emitFrame a c s).pulse = necFrame (emitFrame a c s).pairAddr (emitFrame a c s).pairCmd := by
    rw [pairAddr_emitFrame, pairCmd_emitFrame, emitFrame_pulse]
  refine ⟨fun _ => ⟨pairValid_emitFrame a c s, hword, hpulse⟩, fun _ => hword,
    ⟨pairWord_reserved a c, hrx, hhw⟩, code_le_five .none, ?_⟩
  exact sequencerCoherent_of_idle hseq hidle hidle rfl rfl

/-- ERR of an idle block may be any of the codes. -/
theorem setErr_registersCoherent (e : ErrCode) (hidle : s.busy = false) (hs : s.registersCoherent) :
    (setErr e s).registersCoherent := by
  obtain ⟨hframe, hpair, hres, -, hseq⟩ := hs
  refine ⟨hframe, hpair, hres, code_le_five e, ?_⟩
  exact sequencerCoherent_of_idle hseq hidle hidle rfl rfl

/-- RXRESULT may be any word whose reserved bits are 0. -/
theorem setRxResult_registersCoherent {w : Word} (hw : w &&& 0xFFF00000 = 0) (hs : s.registersCoherent) :
    { s with rxResult := w : State }.registersCoherent := by
  obtain ⟨hframe, hpair, ⟨hp, -, hh⟩, herr, hseq⟩ := hs
  exact ⟨hframe, hpair, ⟨hp, hw, hh⟩, herr, hseq⟩

theorem startTransmit_registersCoherent (hs : s.registersCoherent) :
    (startTransmit s).registersCoherent := by
  obtain ⟨hframe, hpair, ⟨hp, hr, -⟩, -, -⟩ := hs
  refine ⟨hframe, hpair, ⟨hp, hr, BitVec.zero_and⟩, code_le_five .none, ?_⟩
  exact (sequencerCoherent_iff_of_busy rfl).mpr ⟨fun hpend => absurd rfl hpend, rfl, rfl, rfl⟩

/-- An idle block stays coherent under every operation. -/
theorem commandEffect_keeps_registersCoherent (hidle : s.busy = false) (hs : s.registersCoherent)
    (h : CommandEffect s t) : t.registersCoherent := by
  cases h with
  | frame a c => exact emitFrame_registersCoherent a c hidle hs
  | error e _ => exact setErr_registersCoherent e hidle hs
  | report w x =>
    have hx : (setRxWord x s).registersCoherent := hs
    exact setErr_registersCoherent .none hidle (setRxResult_registersCoherent (rxResultOf_reserved w) hx)
  | noFormat => exact setErr_registersCoherent .none hidle (setRxResult_registersCoherent rfl hs)
  | start _ => exact startTransmit_registersCoherent hs

/-- Every reaction of the sequencer keeps the register invariants: an error joins PEND only with DRAIN = 0, and the end of
a transmission writes an outcome's code and a recorded error (43_transmit R146, R147). -/
theorem consumeAnswer_keeps_registersCoherent (r : Response) (hbusy : s.busy = true) (hs : s.registersCoherent) :
    (consumeAnswer r s).registersCoherent := by
  obtain ⟨hframe, hpair, ⟨hp, hr, hh⟩, herr, hseq⟩ := hs
  obtain ⟨hpend, hmarks⟩ := (sequencerCoherent_iff_of_busy hbusy).mp hseq
  obtain ⟨-, -, -, heq⟩ | ⟨-, p, hkeep, heq⟩ | ⟨-, heq⟩ := consumeAnswer_cases hbusy r
  · rw [heq]
    exact ⟨hframe, hpair, ⟨hp, hr, hh⟩, herr, (sequencerCoherent_iff_of_busy rfl).mpr ⟨hpend, hmarks⟩⟩
  · have hnew : p ≠ none → s.drain = false := fun hsome => by
      by_contra hdrain
      exact hdrain (hpend (hkeep (eq_true_of_ne_false hdrain) ▸ hsome))
    rw [heq]
    exact ⟨hframe, hpair, ⟨hp, hr, hh⟩, herr, (sequencerCoherent_iff_of_busy rfl).mpr ⟨hnew, hmarks⟩⟩
  · obtain ⟨e, hw, c, hend, -, hout⟩ := onCarrierOffAnswer_cases r (logAnswer r s)
    have hcodes : e ≤ 0x5#4 ∧ hw &&& 0xFFFFFC00 = 0 := by
      obtain ⟨-, rfl, rfl⟩ | ⟨-, rfl, rfl⟩ | ⟨-, rfl, q, rfl⟩ := hout
      · exact ⟨herr, hh⟩
      · exact ⟨code_le_five .none, hh⟩
      · exact ⟨code_le_five .hardware, hwErrOf_reserved q⟩
    rw [heq, hend]
    exact ⟨hframe, hpair, ⟨hp, hr, hcodes.2⟩, hcodes.1, (sequencerCoherent_iff_of_idle rfl).mpr ⟨rfl, rfl⟩⟩

theorem blockReset_keeps_registersCoherent (hs : s.registersCoherent) : (blockReset s).registersCoherent := by
  obtain ⟨-, -, -, -, hdrain, -, hrun⟩ := hs
  have hinvalid : ¬ (blockReset s).pairValid = true := by simp [State.pairValid]
  have hdrain' : (blockReset s).drain = true → s.busy = true := fun h => by
    rw [blockReset_drain, Bool.or_eq_true] at h
    exact h.elim hdrain id
  exact ⟨fun hready => absurd hready Bool.false_ne_true, fun hvalid => absurd hvalid hinvalid,
    ⟨BitVec.zero_and, BitVec.zero_and, BitVec.zero_and⟩, code_le_five .none, hdrain', fun hpend => absurd rfl hpend,
    fun hbusy => ⟨(hrun hbusy).1, rfl, rfl⟩⟩

end effects

/-- Settles O50: each of the five effects keeps the register invariants; the agents' fields are not read by them. -/
theorem registersStayCoherent : Obligations.RegistersStayCoherent := by
  intro s t hs h
  cases step_effect h with
  | agents g => exact hs
  | store g _ _ => exact storeReg_keeps_registersCoherent (s := s.withAgents g) _ _ hs
  | command g _ hidle haccept =>
    exact commandEffect_keeps_registersCoherent (s := setCmd _ (s.withAgents g)) hidle hs
      (acceptCommand_effect haccept)
  | answer r g hbusy => exact consumeAnswer_keeps_registersCoherent (s := s.withAgents g) r hbusy hs
  | rst g _ => exact blockReset_keeps_registersCoherent (s := s.withAgents g) hs

end Sys2Proof.Machine
end

section
/-! PROOFS. The call log under each of the five effects of a step: it stays a sequence of whole transmissions
(43_transmit R149), and every pulse train in it is an encoder frame (70_reset_and_hazards R197). With the register
invariants these hold of every run from POR. -/

namespace Sys2Proof.Machine

variable {s t : State}

section log
/-! What a command adds to the call log. -/

/-- Only Start() goes on to another sequencer state, and it alone issues a call (43_transmit R143). -/
theorem commandEffect_callLog (h : CommandEffect s t) :
    (t.callLog = s.callLog ∧ t.txState = s.txState) ∨ (s.frameReady = true ∧ t = startTransmit s) := by
  cases h with
  | frame a c => exact .inl ⟨rfl, rfl⟩
  | error e _ => exact .inl ⟨rfl, rfl⟩
  | report w x => exact .inl ⟨rfl, rfl⟩
  | noFormat => exact .inl ⟨rfl, rfl⟩
  | start hready => exact .inr ⟨hready, rfl⟩

end log

section legal

/-- A legal log goes on legally with entries that lead from the phase of the old TXSTATE to that of the new one. -/
theorem callLogLegal_of_append {es : List LogEntry} (hs : s.callLogLegal) (hlog : t.callLog = s.callLog ++ es)
    (hphase : es.foldlM callPhaseNext (phaseOf s.txState) = some (phaseOf t.txState)) : t.callLogLegal := by
  rw [State.callLogLegal, hlog, callPhase_append, hs]
  exact hphase

theorem commandEffect_keeps_callLogLegal (hidle : s.busy = false) (hs : s.callLogLegal) (h : CommandEffect s t) :
    t.callLogLegal := by
  obtain ⟨hlog, htx⟩ | ⟨-, rfl⟩ := commandEffect_callLog h
  · exact callLogLegal_of_agree hs hlog htx
  · refine callLogLegal_of_append hs (startTransmit_callLog s) ?_
    rw [busy_eq_false.mp hidle]
    rfl

/-- Each reaction of the sequencer is a row of R149 or R193's drain. -/
theorem consumeAnswer_keeps_callLogLegal (r : Response) (hbusy : s.busy = true) (hs : s.callLogLegal) :
    (consumeAnswer r s).callLogLegal := by
  obtain ⟨htx, rfl, -, heq⟩ | ⟨htx, p, -, heq⟩ | ⟨htx, heq⟩ := consumeAnswer_cases hbusy r
  · refine callLogLegal_of_append (es := [.answer .ok, .call (.sendPulses s.pulse)]) hs (by simp [heq]) ?_
    rw [heq, htx]
    rfl
  · refine callLogLegal_of_append (es := [.answer r, .call carrierOffCall]) hs (by simp [heq]) ?_
    rw [heq]
    obtain htx | htx := htx
    · rw [htx]
      cases r <;> rfl
    · rw [htx]
      rfl
  · obtain ⟨e, hw, c, hend, -⟩ := onCarrierOffAnswer_cases r (logAnswer r s)
    refine callLogLegal_of_append (es := [.answer r]) hs (by simp [heq, hend]) ?_
    rw [heq, hend, htx]
    rfl

/-- Every step keeps the call log a sequence of whole transmissions, with one unfinished as TXSTATE says. -/
theorem step_keeps_callLogLegal (hs : s.callLogLegal) (h : step s = .next t) : t.callLogLegal := by
  cases step_effect h with
  | agents g => exact hs
  | store g _ _ => exact callLogLegal_of_agree hs (storeReg_callLog ..) (storeReg_txState ..)
  | command g _ hidle haccept =>
    exact commandEffect_keeps_callLogLegal (s := setCmd _ (s.withAgents g)) hidle hs (acceptCommand_effect haccept)
  | answer r g hbusy => exact consumeAnswer_keeps_callLogLegal (s := s.withAgents g) r hbusy hs
  | rst g _ => exact hs

end legal

section frames

/-- A coherent block that awaits carrier-on undrained has an encoder frame in its buffer. -/
theorem pulse_isEncoderFrame (hs : s.registersCoherent) (hready : s.sendReady) (htx : s.txState = .waitCarrierOn)
    (hdrain : s.drain = false) : ∃ a c, s.pulse = necFrame a c := by
  obtain ⟨hframe, -⟩ := hs
  obtain ⟨-, -, hpulse⟩ := hframe (hready htx hdrain)
  exact ⟨_, _, hpulse⟩

/-- Nothing is asked of a block that does not await carrier-on. -/
theorem sendReady_of_ne (h : s.txState ≠ .waitCarrierOn) : s.sendReady := fun htx => absurd htx h

/-- Entries that hand over encoder frames only keep the log one of encoder frames only. -/
theorem onlyFramesSent_of_append {es : List LogEntry} (hs : s.onlyFramesSent) (hlog : t.callLog = s.callLog ++ es)
    (hes : ∀ p, LogEntry.call (.sendPulses p) ∈ es → ∃ a c, p = necFrame a c) : t.onlyFramesSent := by
  intro p hp
  rw [hlog, List.mem_append] at hp
  exact hp.elim (hs p) (hes p)

/-- Start() leaves the frame it found ready. -/
theorem commandEffect_keeps_frames (hidle : s.busy = false) (hsent : s.onlyFramesSent) (h : CommandEffect s t) :
    t.sendReady ∧ t.onlyFramesSent := by
  obtain ⟨hlog, htx⟩ | ⟨hready, rfl⟩ := commandEffect_callLog h
  · have hnot : t.txState ≠ .waitCarrierOn := by simp [htx, busy_eq_false.mp hidle]
    exact ⟨sendReady_of_ne hnot, onlyFramesSent_of_agree hsent hlog⟩
  · exact ⟨fun _ _ => hready, onlyFramesSent_of_append hsent (startTransmit_callLog s) (by simp [carrierOnCall])⟩

/-- The only pulse train an answer hands over is the buffer's, in WAIT_CARRIER_ON with DRAIN = 0. -/
theorem consumeAnswer_keeps_frames (r : Response) (hbusy : s.busy = true) (hs : s.registersCoherent)
    (hready : s.sendReady) (hsent : s.onlyFramesSent) :
    (consumeAnswer r s).sendReady ∧ (consumeAnswer r s).onlyFramesSent := by
  obtain ⟨htx, -, hdrain, heq⟩ | ⟨-, p, -, heq⟩ | ⟨-, heq⟩ := consumeAnswer_cases hbusy r
  · obtain ⟨a, c, hpulse⟩ := pulse_isEncoderFrame hs hready htx hdrain
    refine ⟨sendReady_of_ne (by simp [heq]),
      onlyFramesSent_of_append (es := [.answer r, .call (.sendPulses s.pulse)]) hsent (by simp [heq]) ?_⟩
    intro q hq
    have hbuffer : q = s.pulse := by simpa using hq
    exact ⟨a, c, hbuffer.trans hpulse⟩
  · exact ⟨sendReady_of_ne (by simp [heq]), onlyFramesSent_of_append (es := [.answer r, .call carrierOffCall]) hsent
      (by simp [heq]) (by simp [carrierOffCall])⟩
  · obtain ⟨e, hw, c, hend, -⟩ := onCarrierOffAnswer_cases r (logAnswer r s)
    exact ⟨sendReady_of_ne (by simp [heq, hend]), onlyFramesSent_of_append (es := [.answer r]) hsent
      (by simp [heq, hend]) (by simp)⟩

/-- After RST no frame is awaited undrained: a running transmission drains (70_reset_and_hazards R193). -/
theorem blockReset_sendReady (s : State) : (blockReset s).sendReady := by
  intro htx hdrain
  have hbusy : s.busy = true := busy_eq_true.mpr (by rw [← blockReset_txState, htx]; decide)
  rw [blockReset_drain, hbusy, Bool.or_true] at hdrain
  exact Bool.noConfusion hdrain

/-- Every step of a coherent block sends encoder frames only, and awaits carrier-on undrained only with a frame ready. -/
theorem step_keeps_frames (hs : s.registersCoherent) (hready : s.sendReady) (hsent : s.onlyFramesSent)
    (h : step s = .next t) : t.sendReady ∧ t.onlyFramesSent := by
  cases step_effect h with
  | agents g => exact ⟨hready, hsent⟩
  | store g _ hidle =>
    exact ⟨sendReady_of_ne (by simp [busy_eq_false.mp hidle]), onlyFramesSent_of_agree hsent (storeReg_callLog ..)⟩
  | command g _ hidle haccept =>
    exact commandEffect_keeps_frames (s := setCmd _ (s.withAgents g)) hidle hsent (acceptCommand_effect haccept)
  | answer r g hbusy => exact consumeAnswer_keeps_frames (s := s.withAgents g) r hbusy hs hready hsent
  | rst g _ => exact ⟨blockReset_sendReady _, hsent⟩

end frames

section runs

/-- All invariants of a run: coherent registers, a legal call log, encoder frames only, and the next one ready. -/
def State.invariant (s : State) : Prop :=
  s.registersCoherent ∧ s.callLogLegal ∧ s.onlyFramesSent ∧ s.sendReady

/-- POR meets the invariants, whatever the agents are about to do. -/
theorem poweredOn_invariant (host : List HostLine) (answers : List Response) (schedule : List Turn) :
    (poweredOn host answers schedule).invariant := by
  have hregs : State.reset.registersCoherent := by
    have hinvalid : ¬ State.reset.pairValid = true := by decide
    exact ⟨fun hready => absurd hready Bool.false_ne_true, fun hvalid => absurd hvalid hinvalid,
      ⟨BitVec.zero_and, BitVec.zero_and, BitVec.zero_and⟩, code_le_five .none,
      (sequencerCoherent_iff_of_idle rfl).mpr ⟨rfl, rfl⟩⟩
  have hsent : State.reset.onlyFramesSent := fun p hp => absurd hp List.not_mem_nil
  have hready : State.reset.sendReady := sendReady_of_ne (by decide)
  exact ⟨hregs, rfl, hsent, hready⟩

theorem step_keeps_invariant (s t : State) (hs : s.invariant) (h : step s = .next t) : t.invariant := by
  obtain ⟨hregs, hlegal, hsent, hready⟩ := hs
  obtain ⟨hready', hsent'⟩ := step_keeps_frames hregs hready hsent h
  exact ⟨registersStayCoherent s t hregs h, step_keeps_callLogLegal hlegal h, hsent', hready'⟩

end runs

/-- Settles O49: POR with no host line, no answer and no turn. -/
theorem invariantsAtReset : Obligations.InvariantsAtReset := poweredOn_invariant [] [] []

/-- Settles O53: the run induction over the conjunction of the invariants, which supply each other's step. -/
theorem everyRunFromPowerOn : Obligations.EveryRunFromPowerOn := by
  intro n host answers schedule t h
  exact run_keeps step_keeps_invariant n _ t (poweredOn_invariant host answers schedule) h

end Sys2Proof.Machine
end

section
/-! PROOFS. What a step can do to FRAME_READY, to CARRIER_ON and to the trains handed over, read off its five effects
(10_state R25, R26, R39 e). -/

namespace Sys2Proof.Machine

variable {s t : State}

/-- A flag that a step leaves as it is neither rises nor falls. -/
theorem no_edge {before after : Bool} (h : after = before) {P Q : Prop} :
    (before = false → after = true → P) ∧ (before = true → after = false → Q) := by
  subst h
  cases after <;> simp

section sends
/-! The pulse trains handed over. -/

/-- A log that goes on hands over what it did and what its new entries do. -/
theorem sentTrains_append (l es : List LogEntry) : sentTrains (l ++ es) = sentTrains l ++ sentTrains es :=
  List.filterMap_append

/-- Entries that hand over nothing leave the trains as they were. -/
theorem sentTrains_of_append {es : List LogEntry} (hlog : t.callLog = s.callLog ++ es) (hes : sentTrains es = []) :
    sentTrains t.callLog = sentTrains s.callLog := by
  rw [hlog, sentTrains_append, hes, List.append_nil]

theorem commandEffect_sentTrains (h : CommandEffect s t) : sentTrains t.callLog = sentTrains s.callLog := by
  obtain ⟨hlog, -⟩ | ⟨-, rfl⟩ := commandEffect_callLog h
  · rw [hlog]
  · exact sentTrains_of_append (startTransmit_callLog s) rfl

/-- An answer hands over the buffer in WAIT_CARRIER_ON with DRAIN = 0, and otherwise nothing. -/
theorem consumeAnswer_sentTrains (r : Response) (hbusy : s.busy = true) :
    sentTrains (consumeAnswer r s).callLog = sentTrains s.callLog ∨
    (sentTrains (consumeAnswer r s).callLog = sentTrains s.callLog ++ [s.pulse] ∧ s.drain = false ∧
      s.txState = .waitCarrierOn ∧ (consumeAnswer r s).txState = .waitSend) := by
  obtain ⟨htx, -, hdrain, heq⟩ | ⟨-, p, -, heq⟩ | ⟨-, heq⟩ := consumeAnswer_cases hbusy r
  · have hlog : (consumeAnswer r s).callLog = s.callLog ++ [.answer r, .call (.sendPulses s.pulse)] := by simp [heq]
    refine .inr ⟨?_, hdrain, htx, by rw [heq]; rfl⟩
    rw [hlog, sentTrains_append]
    rfl
  · exact .inl (sentTrains_of_append (es := [.answer r, .call carrierOffCall]) (by simp [heq]) rfl)
  · obtain ⟨e, hw, c, hend, -⟩ := onCarrierOffAnswer_cases r (logAnswer r s)
    exact .inl (sentTrains_of_append (es := [.answer r]) (by simp [heq, hend]) rfl)

end sends

/-- Settles O55: of the five effects only an answer can hand over a train. -/
theorem sendsOnlyUndrained : Obligations.SendsOnlyUndrained := by
  intro s t h
  cases step_effect h with
  | agents g => exact .inl rfl
  | store g _ _ => exact .inl (by rw [storeReg_callLog, withAgents_callLog])
  | command g _ _ haccept =>
    exact .inl (commandEffect_sentTrains (s := setCmd _ (s.withAgents g)) (acceptCommand_effect haccept))
  | answer r g hbusy => exact consumeAnswer_sentTrains (s := s.withAgents g) r hbusy
  | rst g _ => exact .inl rfl

section frameReady
/-! FRAME_READY (10_state R25). -/

/-- An operation raises FRAME_READY by framing, and none clears it. -/
theorem commandEffect_frameReady (h : CommandEffect s t) :
    t.frameReady = s.frameReady ∨ (t.frameReady = true ∧ t.err = ErrCode.none.code) := by
  cases h with
  | frame a c => exact .inr ⟨rfl, rfl⟩
  | error e _ => exact .inl rfl
  | report w x => exact .inl rfl
  | noFormat => exact .inl rfl
  | start _ => exact .inl rfl

/-- The three operations that encode nothing leave FRAME_READY as it is. -/
theorem exec_keeps_frameReady {i : Instr} (h : exec i s = .next t)
    (hi : i = .validateWord ∨ i = .validatePulses ∨ i = .transmit) : t.frameReady = s.frameReady := by
  obtain rfl | rfl | rfl := hi
  · cases h
    rfl
  · simp only [exec, execValidatePulses] at h
    split at h <;> cases h <;> rfl
  · simp only [exec, execTransmit] at h
    split at h <;> cases h <;> rfl

/-- A word whose acceptance raises FRAME_READY encodes one of the five encoding operations, and its outcome is NONE. -/
theorem acceptCommand_raises_frameReady {w : Word} (h : acceptCommand w s = .next t) (hs : s.frameReady = false)
    (ht : t.frameReady = true) :
    ∃ i, decodeWord w = .ok i ∧ i ≠ .validateWord ∧ i ≠ .validatePulses ∧ i ≠ .transmit ∧ t.err = 0x0 := by
  have hrise : t.frameReady ≠ s.frameReady := by simp [hs, ht]
  have herr : t.err = 0x0 := ((commandEffect_frameReady (acceptCommand_effect h)).resolve_left hrise).2
  cases hdecode : decodeWord w with
  | error e =>
    rw [acceptCommand_of_illegal hdecode] at h
    cases h
    exact absurd rfl hrise
  | ok i =>
    rw [acceptCommand_of_decode hdecode] at h
    have hencoder : ¬ (i = .validateWord ∨ i = .validatePulses ∨ i = .transmit) := fun hi =>
      hrise (exec_keeps_frameReady (s := setCmd w s) h hi)
    simp only [not_or] at hencoder
    obtain ⟨hword, hpulses, htransmit⟩ := hencoder
    exact ⟨i, rfl, hword, hpulses, htransmit, herr⟩

/-- No store raises FRAME_READY, and only one to a pulse entry clears it (20_memory R55). -/
theorem storeReg_frameReady (r : Reg) (v : Word) (s : State) :
    (storeReg r v s).frameReady = s.frameReady ∨ (storeReg r v s).frameReady = false ∧ ∃ k, r = .pulse k := by
  cases r with
  | pulse k => exact .inr ⟨rfl, k, rfl⟩
  | _ => exact .inl rfl

/-- No answer touches FRAME_READY: a frame once sent stays ready. -/
theorem consumeAnswer_frameReady (r : Response) (hbusy : s.busy = true) :
    (consumeAnswer r s).frameReady = s.frameReady := by
  obtain ⟨-, -, -, heq⟩ | ⟨-, p, -, heq⟩ | ⟨-, heq⟩ := consumeAnswer_cases hbusy r
  · exact heq ▸ rfl
  · exact heq ▸ rfl
  · obtain ⟨e, hw, c, hend, -⟩ := onCarrierOffAnswer_cases r (logAnswer r s)
    rw [heq, hend]
    rfl

end frameReady

/-- Settles O56: an accepted command is the only effect that raises FRAME_READY; a store to a pulse entry and RST are the
only ones that clear it. -/
theorem frameReadyEvents : Obligations.FrameReadyEvents := by
  intro s t h
  cases step_effect h with
  | agents g => exact no_edge rfl
  | @store r v q sch g hissue hidle =>
    obtain heq | ⟨hclear, k, rfl⟩ := storeReg_frameReady r v (s.withAgents g)
    · exact no_edge heq
    · exact ⟨fun _ ht => absurd (hclear.symm.trans ht) Bool.false_ne_true,
        fun _ _ => .inr ⟨k, _, _, _, hissue, hidle⟩⟩
  | command g hissue hidle haccept =>
    constructor
    · intro hs ht
      obtain ⟨i, hi⟩ := acceptCommand_raises_frameReady (s := s.withAgents g) haccept hs ht
      exact ⟨_, _, _, i, hissue, hidle, hi⟩
    · intro hs ht
      obtain heq | ⟨hready, -⟩ :=
        commandEffect_frameReady (s := setCmd _ (s.withAgents g)) (acceptCommand_effect haccept)
      · exact absurd (ht.symm.trans (heq.trans hs)) Bool.false_ne_true
      · exact absurd (ht.symm.trans hready) Bool.false_ne_true
  | answer r g hbusy => exact no_edge (consumeAnswer_frameReady (s := s.withAgents g) r hbusy)
  | rst g hturn => exact ⟨fun _ ht => absurd ht Bool.false_ne_true, fun _ _ => .inl ⟨_, hturn⟩⟩

section carrierOn
/-! CARRIER_ON (10_state R26). -/

/-- An operation touches CARRIER_ON in Start() only, which raises it and issues carrier-on (43_transmit R143). -/
theorem commandEffect_carrierOn (h : CommandEffect s t) :
    t.carrierOn = s.carrierOn ∨ (t.carrierOn = true ∧ t.callLog = s.callLog ++ [.call carrierOnCall]) := by
  cases h with
  | frame a c => exact .inl rfl
  | error e _ => exact .inl rfl
  | report w x => exact .inl rfl
  | noFormat => exact .inl rfl
  | start _ => exact .inr ⟨rfl, rfl⟩

/-- An answer touches CARRIER_ON as the Ok to carrier-off only, which clears it (43_transmit R146). -/
theorem consumeAnswer_carrierOn (r : Response) (hbusy : s.busy = true) :
    (consumeAnswer r s).carrierOn = s.carrierOn ∨
    ((consumeAnswer r s).carrierOn = false ∧ s.txState = .waitCarrierOff ∧
      (consumeAnswer r s).callLog = s.callLog ++ [.answer .ok] ∧ (consumeAnswer r s).txState = .idle) := by
  obtain ⟨-, -, -, heq⟩ | ⟨-, p, -, heq⟩ | ⟨htx, heq⟩ := consumeAnswer_cases hbusy r
  · exact .inl (heq ▸ rfl)
  · exact .inl (heq ▸ rfl)
  · obtain ⟨e, hw, c, hend, hc, -⟩ := onCarrierOffAnswer_cases r (logAnswer r s)
    rw [heq, hend]
    cases r with
    | ok => exact .inr ⟨hc, htx, rfl, rfl⟩
    | err x => exact .inl hc

end carrierOn

/-- Settles O57: CARRIER_ON rises in Start() and falls at the Ok to carrier-off; no other effect touches it. -/
theorem carrierOnEvents : Obligations.CarrierOnEvents := by
  intro s t h
  cases step_effect h with
  | agents g => exact no_edge rfl
  | store g _ _ => exact no_edge (storeReg_carrierOn _ _ (s.withAgents g))
  | command g _ _ haccept =>
    obtain heq | ⟨hrise, hlog⟩ :=
      commandEffect_carrierOn (s := setCmd _ (s.withAgents g)) (acceptCommand_effect haccept)
    · exact no_edge heq
    · exact ⟨fun _ _ => hlog, fun _ ht => absurd (ht.symm.trans hrise) Bool.false_ne_true⟩
  | answer r g hbusy =>
    obtain heq | ⟨hfall, hevent⟩ := consumeAnswer_carrierOn (s := s.withAgents g) r hbusy
    · exact no_edge heq
    · obtain ⟨htx, hlog, hidle⟩ := hevent
      exact ⟨fun _ ht => absurd (hfall.symm.trans ht) Bool.false_ne_true, fun _ _ => ⟨htx, hlog, hidle⟩⟩
  | rst g _ => exact no_edge rfl

end Sys2Proof.Machine
end

section
/-! PROOFS. The words STATUS and CARRIER read (10_state R23, R36). -/

namespace Sys2Proof.Machine

/-- Byte 0 of STATUS, field by field. -/
theorem statusLow_fields (s : State) :
    s.statusLow.getLsbD 0 = s.busy ∧ s.statusLow.getLsbD 1 = s.frameReady ∧ s.statusLow.getLsbD 2 = s.carrierOn ∧
    s.statusLow.getLsbD 3 = s.drain ∧ s.statusLow.extractLsb' 4 2 = s.txState.code ∧
    s.statusLow.extractLsb' 6 2 = 0 := by
  unfold State.statusLow
  generalize s.txState.code = x
  generalize s.busy = b
  generalize s.frameReady = f
  generalize s.carrierOn = c
  generalize s.drain = d
  revert x b f c d
  decide

/-- A field inside byte 0 of a word is that field of the byte. -/
theorem extract_low_wordOfLanes (b0 b1 b2 b3 : Byte) (start len : Nat) (h : start + len ≤ 8) :
    (wordOfLanes b0 b1 b2 b3).extractLsb' start len = b0.extractLsb' start len := by
  apply BitVec.eq_of_getLsbD_eq
  intro i hi
  rw [BitVec.getLsbD_extractLsb', BitVec.getLsbD_extractLsb', getLsbD_wordOfLanes, if_pos (by omega)]

/-- STATUS from bit 8 on: ERR, then zeros (10_state R23). -/
theorem getLsbD_statusWord_high (s : State) (i : Nat) : s.statusWord.getLsbD (8 + i) = s.err.getLsbD i := by
  rw [State.statusWord, getLsbD_wordOfLanes, if_neg (by omega)]
  split_ifs with hbyte
  · have hlt : i < 8 := by omega
    simp [hlt]
  · rw [BitVec.getLsbD_of_ge s.err i (by omega)]
    exact BitVec.getLsbD_zero
  · rw [BitVec.getLsbD_of_ge s.err i (by omega)]
    exact BitVec.getLsbD_zero

theorem statusWord_errField (s : State) : s.statusWord.extractLsb' 8 4 = s.err := by
  apply BitVec.eq_of_getLsbD_eq
  intro i hi
  simp only [BitVec.getLsbD_extractLsb', getLsbD_statusWord_high, hi, decide_true, Bool.true_and]

theorem statusWord_reserved (s : State) : s.statusWord.extractLsb' 12 20 = 0 := by
  apply BitVec.eq_of_getLsbD_eq
  intro i _
  have hbit : s.statusWord.getLsbD (12 + i) = false := by
    rw [show 12 + i = 8 + (4 + i) by omega, getLsbD_statusWord_high]
    exact BitVec.getLsbD_of_ge s.err (4 + i) (by omega)
  rw [BitVec.getLsbD_extractLsb', hbit, Bool.and_false]
  exact BitVec.getLsbD_zero.symm

/-- Settles O9: the fields of byte 0, ERR, and the two reserved fields; a write goes to a register that ignores it. -/
theorem statusWordLayout : Obligations.StatusWordLayout := by
  intro s
  obtain ⟨hbusy, hready, hcarrier, hdrain, htx, hzero⟩ := statusLow_fields s
  have low_bit (i : Nat) (hi : i < 8) : s.statusWord.getLsbD i = s.statusLow.getLsbD i := by
    rw [State.statusWord, getLsbD_wordOfLanes, if_pos hi]
  have low_field (start len : Nat) (h : start + len ≤ 8) :
      s.statusWord.extractLsb' start len = s.statusLow.extractLsb' start len :=
    extract_low_wordOfLanes _ _ _ _ start len h
  refine ⟨?_, (low_bit 1 (by decide)).trans hready, (low_bit 2 (by decide)).trans hcarrier,
    (low_bit 3 (by decide)).trans hdrain, (low_field 4 2 (by decide)).trans htx,
    (low_field 6 2 (by decide)).trans hzero, statusWord_errField s, statusWord_reserved s, fun _ => rfl⟩
  rw [← busy_eq_true, ← hbusy, ← low_bit 0 (by decide)]
  rfl

/-- A call just issued is the outstanding one (log 11). -/
theorem outstanding_of_callLog_append {s : State} {l : List LogEntry} {c : Call} (h : s.callLog = l ++ [.call c]) :
    s.outstanding = some c := by
  rw [State.outstanding, h, List.getLast?_concat]

/-- CARRIER's two fields are the parameters of carrier-on (10_state R36). -/
theorem carrierWord_fields :
    carrierWord = 0x01F49470 ∧ (carrierWord.extractLsb' 0 16).toNat = carrierHz ∧
    (carrierWord.extractLsb' 16 16).toNat = carrierDutyPermille := by
  decide

/-- Settles O10: CARRIER is the constant, and Start() leaves outstanding the call of its two fields. -/
theorem carrierRegisterConstant : Obligations.CarrierRegisterConstant := by
  intro s
  obtain ⟨hword, hfreq, hduty⟩ := carrierWord_fields
  refine ⟨hword, hfreq, hduty, ?_⟩
  change (startTransmit s).outstanding =
    some (.setCarrier (carrierWord.extractLsb' 0 16).toNat (carrierWord.extractLsb' 16 16).toNat)
  rw [hfreq, hduty]
  exact outstanding_of_callLog_append (startTransmit_callLog s)

end Sys2Proof.Machine
end

section
/-! PROOFS. One host access at the step, by what it reaches (20_memory R50 to R56): outside the window, refused, a read, a
write while idle, a held write. -/

namespace Sys2Proof.Machine

/-- Every register lies at a multiple of 4, below 0x020 or from 0x100 to 0x208 (20_memory R51). -/
theorem regOffset_bounds (r : Reg) :
    regOffset r % 4 = 0 ∧ (regOffset r < 0x020 ∨ (0x100 ≤ regOffset r ∧ regOffset r ≤ 0x208)) := by
  cases r with
  | pulse k =>
    have hk := k.isLt
    simp only [regOffset]
    omega
  | _ => decide

theorem regOffset_lt_windowSize (r : Reg) : regOffset r < windowSize := by
  have h := regOffset_bounds r
  simp only [windowSize]
  omega

/-- No register is reached where the map has a hole. -/
theorem regAt_eq_none_of_unmapped {off : Nat} (h : off % 4 ≠ 0 ∨ (0x020 ≤ off ∧ off < 0x100) ∨ 0x20C ≤ off) :
    regAt off = none := by
  cases hr : regAt off with
  | none => rfl
  | some r =>
    obtain rfl := regAt_eq_some.mp hr
    have hmapped := regOffset_bounds r
    omega

/-- An access of another width, misaligned or unmapped reaches no register (20_memory R52, R53). -/
theorem admitted_eq_none_of_refused {off : Nat} {wd : AccessWidth}
    (h : wd ≠ .word ∨ off % 4 ≠ 0 ∨ (0x020 ≤ off ∧ off ≤ 0x0FC) ∨ 0x20C ≤ off) : admitted off wd = none := by
  cases wd with
  | word =>
    refine regAt_eq_none_of_unmapped ?_
    have hword := h.resolve_left (fun hne => hne rfl)
    omega
  | half => rfl
  | byte => rfl

section issued
variable {s : State} {q : List HostLine} {sch : List Turn}

/-- An access outside the window faults at the host's turn (log 9). -/
theorem step_of_issues_outside {a : Access} (hissue : s.issues a q sch) (h : windowSize ≤ accessOffset a) :
    step s = .fault (.outsideWindow (accessOffset a)) := by
  obtain ⟨hturn, hline⟩ := hissue
  simp only [step, hturn, takeTurn, hostTurn, setSchedule_host, hline, if_pos h]

/-- A refused access is never held, and completes with the bus error (20_memory R52, R53). -/
theorem step_of_issues_refused {a : Access} {off : Nat} {wd : AccessWidth}
    (ha : a = .read off wd ∨ ∃ v, a = .write off wd v) (hissue : s.issues a q sch) (hwindow : off < windowSize)
    (hnone : admitted off wd = none) : step s = .next (s.completed a .busError q sch) := by
  obtain rfl | ⟨v, rfl⟩ := ha
  · rw [step_of_issues hissue hwindow rfl, performAccess, hnone]
    rfl
  · have hfree : s.holds (.write off wd v) = false := by simp [State.holds, hnone]
    rw [step_of_issues hissue hwindow hfree, performAccess, hnone]
    rfl

/-- A read of a register completes with its value, while BUSY = 1 too (20_memory R54). -/
theorem step_of_issues_read {r : Reg} (hissue : s.issues (.read (regOffset r) .word) q sch) :
    step s = .next (s.completed (.read (regOffset r) .word) (.data (readReg r s)) q sch) := by
  have hadmit : admitted (regOffset r) .word = some r := regAt_regOffset r
  have hvalue : readReg r (setHost q (setSchedule sch s)) = readReg r s := by cases r <;> rfl
  rw [step_of_issues hissue (regOffset_lt_windowSize r) rfl, performAccess, hadmit]
  exact congrArg (fun v => Host.Outcome.next (s.completed _ (.data v) q sch)) hvalue

/-- A write to a register is performed while BUSY = 0 (20_memory R55). -/
theorem step_of_issues_write {r : Reg} {v : Word} (hissue : s.issues (.write (regOffset r) .word v) q sch)
    (hidle : s.busy = false) :
    step s = writeReg r v (s.completed (.write (regOffset r) .word v) .done q sch) := by
  have hadmit : admitted (regOffset r) .word = some r := regAt_regOffset r
  have hfree : s.holds (.write (regOffset r) .word v) = false := by simp [State.holds, hidle]
  rw [step_of_issues hissue (regOffset_lt_windowSize r) hfree, performAccess, hadmit]
  rfl

/-- A held write takes the turn and nothing else (20_memory R56). -/
theorem step_of_issues_held {r : Reg} {v : Word} (hissue : s.issues (.write (regOffset r) .word v) q sch)
    (hbusy : s.busy = true) : step s = .next (setSchedule sch s) := by
  obtain ⟨hturn, hline⟩ := hissue
  have hadmit : admitted (regOffset r) .word = some r := regAt_regOffset r
  have hheld : (setSchedule sch s).holds (.write (regOffset r) .word v) = true := by
    rw [State.holds, hadmit, busy_congr (setSchedule_txState sch s), hbusy]
    rfl
  simp only [step, hturn, takeTurn, hostTurn, setSchedule_host, hline, accessOffset,
    if_neg (Nat.not_le.mpr (regOffset_lt_windowSize r)), hheld, if_true]

end issued

/-- Settles O15: the fault names the access's offset, whatever its kind and width. -/
theorem outsideWindowFaults : Obligations.OutsideWindowFaults := by
  rintro s off wd v a q sch (rfl | rfl) hout hissue
  · exact step_of_issues_outside hissue hout
  · exact step_of_issues_outside hissue hout

/-- Settles O16: by the two bounds of `windowOffset?`. -/
theorem windowStartsAtBlockBase : Obligations.WindowStartsAtBlockBase := by
  refine ⟨fun off hin => ?_, fun off hout => ?_, fun n hbelow => ?_⟩
  · have hbounds : Config.blockBase ≤ Config.blockBase + off ∧
        Config.blockBase + off < Config.blockBase + windowSize := by simp only [windowSize]; omega
    rw [windowOffset?, if_pos hbounds, Nat.add_sub_cancel_left]
  · exact if_neg (by simp only [windowSize]; omega)
  · exact if_neg (by omega)

/-- Settles O12: what is refused is not admitted, so it is neither held nor performed. -/
theorem refusedAccessesChangeNothing : Obligations.RefusedAccessesChangeNothing := by
  intro s a off wd q sch ha hwindow hrefused hissue
  exact step_of_issues_refused ha hissue hwindow (admitted_eq_none_of_refused hrefused)

/-- Settles O13, by induction on the number of host turns: each takes its turn and leaves the write where it is. -/
theorem busyHoldsWrites : Obligations.BusyHoldsWrites := by
  intro n
  induction n with
  | zero =>
    rintro s r v q sch - hsch -
    obtain rfl : s.schedule = sch := hsch
    rfl
  | succ n ih =>
    intro s r v q sch hbusy hsch hline
    have hissue : s.issues (.write (regOffset r) .word v) q (List.replicate n .host ++ sch) := ⟨hsch, hline⟩
    rw [run_succ_of_next (step_of_issues_held hissue hbusy)]
    exact ih (setSchedule _ s) r v q sch hbusy rfl hline

/-- Settles O14: a performed access that is not a write only joins the record, and a write that is performed would have found
BUSY = 0. -/
theorem hostCannotDisturbTransmission : Obligations.HostCannotDisturbTransmission := by
  intro s t sch hbusy hturn h
  have hhost : hostTurn (setSchedule sch s) = .next t := by rwa [step, hturn] at h
  have not_free (r : Reg) (v : Word) : (setSchedule sch s).holds (.write (regOffset r) .word v) ≠ false := fun hfree =>
    absurd (hbusy.symm.trans (idle_of_not_holds r v hfree)) (by decide)
  obtain rfl | ⟨a, rest, -, -, hfree, hperform⟩ | ⟨r, l, rfl⟩ := hostTurn_cases hhost
  · rfl
  · obtain ⟨r, rfl⟩ | ⟨r, v, rfl, -, -⟩ | ⟨v, rfl, -⟩ := performAccess_cases hperform
    · rfl
    · exact absurd hfree (not_free r v)
    · exact absurd hfree (not_free .cmd v)
  · rfl

end Sys2Proof.Machine
end

section
/-! PROOFS. What a register reads: its bits, with the reserved ones 0, and its byte lanes (20_memory R54, R57). -/

namespace Sys2Proof.Machine

/-- A mask of the low n bits keeps those and clears the others. -/
theorem getLsbD_and_lowMask (x : Word) (n i : Nat) :
    (x &&& BitVec.ofNat 32 (2 ^ n - 1)).getLsbD i = (x.getLsbD i && decide (i < n)) := by
  rw [BitVec.getLsbD_and, BitVec.getLsbD_ofNat, Nat.testBit_two_pow_sub_one]
  by_cases hi : i < 32
  · simp [hi]
  · simp [BitVec.getLsbD_of_ge x i (by omega)]

/-- What a register with n bits reads: they are as stored, and the reserved bits above are 0. -/
theorem and_lowMask_bits (x : Word) (n : Nat) :
    (∀ i, i < n → (x &&& BitVec.ofNat 32 (2 ^ n - 1)).getLsbD i = x.getLsbD i) ∧
    ∀ i, n ≤ i → (x &&& BitVec.ofNat 32 (2 ^ n - 1)).getLsbD i = false := by
  constructor
  · intro i hi
    rw [getLsbD_and_lowMask, decide_eq_true hi, Bool.and_true]
  · intro i hi
    rw [getLsbD_and_lowMask, decide_eq_false (by omega), Bool.and_false]

/-- Byte 0 of STATUS, as a number (10_state R23). -/
theorem toNat_statusLow (s : State) :
    s.statusLow.toNat = 0x10 * s.txState.code.toNat + 8 * s.drain.toNat + 4 * s.carrierOn.toNat
      + 2 * s.frameReady.toNat + s.busy.toNat := by
  unfold State.statusLow
  generalize s.txState.code = x
  generalize s.busy = b
  generalize s.frameReady = f
  generalize s.carrierOn = c
  generalize s.drain = d
  revert x b f c d
  decide

/-- STATUS as a number: ERR above byte 0 (10_state R23). -/
theorem toNat_statusWord (s : State) : s.statusWord.toNat = 0x100 * s.err.toNat + s.statusLow.toNat := by
  have herr : (s.err.zeroExtend 8).toNat = s.err.toNat :=
    BitVec.toNat_setWidth_of_le (by decide)
  rw [State.statusWord, toNat_wordOfLanes, herr]
  simp

/-- Settles O8: `step_of_issues_read`, then what each register reads. -/
theorem readsReturnRegisters : Obligations.ReadsReturnRegisters := by
  intro s r q sch hissue
  refine ⟨readReg r s, step_of_issues_read hissue, ?_⟩
  cases r with
  | cmd => rfl
  | status =>
    change s.statusWord.toNat = _
    rw [toNat_statusWord, toNat_statusLow]
    omega
  | pair => exact and_lowMask_bits s.pair 17
  | frameWord => rfl
  | rxWord => rfl
  | rxResult => exact and_lowMask_bits s.rxResult 20
  | hwErr => exact and_lowMask_bits s.hwErr 10
  | carrier => exact carrierWord_fields.1
  | pulse k => exact BitVec.toNat_setWidth_of_le (by decide)

/-- The four lanes of a word, by index (20_memory R57). -/
theorem laneBytes_getElem? (w : Word) (j : Fin 4) : (laneBytes w)[j.val]? = some (w.extractLsb' (8 * j.val) 8) := by
  fin_cases j <;> rfl

/-- Settles O17: a register's offset is a multiple of 4, so its lanes are its own, and the holes of the map hold none. -/
theorem littleEndianLanes : Obligations.LittleEndianLanes := by
  refine fun s => ⟨fun r j => ?_, fun off hoff => ?_⟩
  · obtain ⟨haligned, -⟩ := regOffset_bounds r
    have hj := j.isLt
    have hreg : 4 * ((regOffset r + j.val) / 4) = regOffset r := by omega
    have hlane : (regOffset r + j.val) % 4 = j.val := by omega
    rw [State.windowByte?, hreg, hlane, regAt_regOffset]
    exact laneBytes_getElem? (readReg r s) j
  · have hhole : regAt (4 * (off / 4)) = none := regAt_eq_none_of_unmapped (by omega)
    rw [State.windowByte?, hhole]

end Sys2Proof.Machine
end

section
/-! PROOFS. What a write leaves, once and again (20_memory R55, R59): an accepted word completes and sets CMD, and every
operation but TRANSMIT, run again on what it left, leaves the same. -/

namespace Sys2Proof.Machine

/-- No operation writes CMD: it holds the word that was accepted (10_state R22). -/
theorem commandEffect_cmd {s t : State} (h : CommandEffect s t) : t.cmd = s.cmd := by
  cases h <;> rfl

/-- Every operation answers a next state, in every state (60_exceptions R177). -/
theorem exec_completes (i : Instr) (s : State) : ∃ t, exec i s = .next t := by
  cases i with
  | validatePulses =>
    simp only [exec, execValidatePulses]
    split <;> exact ⟨_, rfl⟩
  | transmit =>
    simp only [exec, execTransmit]
    split <;> exact ⟨_, rfl⟩
  | _ => exact ⟨_, rfl⟩

/-- Accepting a word completes and leaves it in CMD (10_state R22). -/
theorem acceptCommand_completes (w : Word) (s : State) : ∃ t, acceptCommand w s = .next t ∧ t.cmd = w := by
  obtain ⟨t, ht⟩ : ∃ t, acceptCommand w s = .next t := by
    cases hdecode : decodeWord w with
    | error e => exact ⟨_, acceptCommand_of_illegal hdecode s⟩
    | ok i =>
      rw [acceptCommand_of_decode hdecode]
      exact exec_completes i _
  exact ⟨t, ht, commandEffect_cmd (acceptCommand_effect ht)⟩

/-- Settles O11: `step_of_issues_write` at the register of each offset. -/
theorem writesActByOffset : Obligations.WritesActByOffset := by
  intro s off v q sch hissue hidle
  refine ⟨?cmd, ?rxWord, ?pulse, ?readOnly⟩
  case cmd =>
    rintro rfl
    obtain ⟨t, ht, hcmd⟩ := acceptCommand_completes v (s.completed (.write 0x000 .word v) .done q sch)
    have hstep := step_of_issues_cmd hissue hidle
    exact ⟨hstep, t, hstep.trans ht, hcmd⟩
  case rxWord =>
    rintro rfl
    exact step_of_issues_write (r := .rxWord) hissue hidle
  case pulse =>
    rintro k rfl
    exact step_of_issues_write (r := .pulse k) hissue hidle
  case readOnly =>
    simp only [List.mem_cons, List.not_mem_nil, or_false]
    rintro (rfl | rfl | rfl | rfl | rfl | rfl)
    · exact step_of_issues_write (r := .status) hissue hidle
    · exact step_of_issues_write (r := .pair) hissue hidle
    · exact step_of_issues_write (r := .frameWord) hissue hidle
    · exact step_of_issues_write (r := .rxResult) hissue hidle
    · exact step_of_issues_write (r := .hwErr) hissue hidle
    · exact step_of_issues_write (r := .carrier) hissue hidle

/-- A read records itself, whatever it reaches (20_memory R52 to R54). -/
theorem performAccess_read (off : Nat) (wd : AccessWidth) (s : State) :
    ∃ r, performAccess (.read off wd) s = .next (recordBus (.read off wd) r s) := by
  cases h : admitted off wd with
  | none => exact ⟨.busError, by rw [performAccess, h]⟩
  | some r => exact ⟨.data (readReg r s), by rw [performAccess, h]⟩

/-- A second equal store changes nothing more. -/
theorem storeReg_storeReg (r : Reg) (v : Word) (s : State) : storeReg r v (storeReg r v s) = storeReg r v s := by
  cases r with
  | pulse k => simp only [storeReg, Vector.set_set]
  | _ => rfl

/-- An intent repeated frames the same pair, or records the same error. -/
theorem finishIntent_finishIntent (bld : Build) (e : ErrCode) (c : Option Byte) (s : State) :
    finishIntent bld e c (finishIntent bld e c s) = finishIntent bld e c s := by
  cases c <;> rfl

/-- VALIDATE_PULSES does not write the buffer it decodes, so that it finds the same again (42_complement_validator R123). -/
theorem execValidatePulses_again {s t : State} (h : execValidatePulses s = .next t) : execValidatePulses t = .next t := by
  have hpulse : t.pulse = s.pulse := by
    unfold execValidatePulses at h
    split at h <;> cases h <;> rfl
  unfold execValidatePulses at h ⊢
  rw [hpulse]
  split at h <;> cases h <;> rfl

/-- Every operation but TRANSMIT leaves a state that it maps to itself: it leaves what it reads as it was. -/
theorem exec_again {i : Instr} {s t : State} (hi : i ≠ .transmit) (h : exec i s = .next t) : exec i t = .next t := by
  cases i with
  | encPower b => cases h; rfl
  | encMode m => cases h; exact congrArg Host.Outcome.next (finishIntent_finishIntent ..)
  | encTemp b => cases h; exact congrArg Host.Outcome.next (finishIntent_finishIntent ..)
  | encFan f => cases h; exact congrArg Host.Outcome.next (finishIntent_finishIntent ..)
  | encPair a c => cases h; rfl
  | validateWord => cases h; rfl
  | validatePulses => exact execValidatePulses_again h
  | transmit => exact absurd rfl hi

/-- Writing to CMD what it holds changes nothing. -/
theorem withCmd_of_cmd_eq {w : Word} {s : State} (h : s.cmd = w) : { s with cmd := w } = s := by
  subst h
  rfl

/-- The opcode map gives TRANSMIT for 0x08 only (30_encoding R72). -/
theorem opcode_of_dispatch_transmit {op a b : Byte} (h : dispatchOpcode op a b = .ok .transmit) : op = 0x08#8 := by
  unfold dispatchOpcode at h
  split at h
  case h_8 => rfl
  all_goals cases h

/-- One word only encodes TRANSMIT (30_encoding R71, R72). -/
theorem eq_of_decodeWord_transmit {w : Word} (h : decodeWord w = .ok .transmit) : w = 0x08000000 := by
  unfold decodeWord at h
  split_ifs at h with _ hrsv haddr _ hoperand
  have hop := opcode_of_dispatch_transmit h
  have ha : aField w = 0 := by
    by_contra hne
    exact haddr ⟨by rw [hop]; decide, hne⟩
  have hb : bField w = 0 := by
    by_contra hne
    exact hoperand ⟨by rw [hop]; decide, hne⟩
  rw [← commandWord_of_fields w (not_not.mp hrsv), hop, ha, hb]
  decide

/-- A word but TRANSMIT's, accepted again in the state it left, leaves that state (20_memory R59). -/
theorem acceptCommand_again {w : Word} {s t : State} (hw : w ≠ 0x08000000) (h : acceptCommand w s = .next t) :
    acceptCommand w t = .next t := by
  have hsame : { t with cmd := w } = t := withCmd_of_cmd_eq (commandEffect_cmd (acceptCommand_effect h))
  cases hdecode : decodeWord w with
  | error e =>
    rw [acceptCommand_of_illegal hdecode] at h ⊢
    cases h
    rfl
  | ok i =>
    have hi : i ≠ .transmit := fun hi => hw (eq_of_decodeWord_transmit (hi ▸ hdecode))
    rw [acceptCommand_of_decode hdecode] at h ⊢
    rw [hsame]
    exact exec_again hi h

/-- TRANSMIT with a ready frame issues carrier-on, each time it is accepted (43_transmit R143). -/
theorem acceptCommand_transmit_callLog {s : State} (hready : s.frameReady = true) :
    ∃ t, acceptCommand 0x08000000 s = .next t ∧ t.callLog = s.callLog ++ [.call carrierOnCall] := by
  refine ⟨startTransmit (setCmd 0x08000000 s), ?_, rfl⟩
  rw [acceptCommand_of_decode (i := .transmit) (by decide)]
  exact if_pos hready

/-- Settles O30: the four parts of R59. -/
theorem accessesAreIdempotent : Obligations.AccessesAreIdempotent :=
  ⟨fun s off wd => performAccess_read off wd s, fun s r v => storeReg_storeReg r v s,
    fun _ _ _ hw h => acceptCommand_again hw h, fun _ hready => acceptCommand_transmit_callLog hready⟩

end Sys2Proof.Machine
end

section
/-! PROOFS. The command word (30_encoding R70 to R72): a word decodes to an instruction exactly when it is the encoding
of that well-formed instruction; the opcode map's rows and R71's checks are read off the four fields. -/

namespace Sys2Proof

/-- A command word is known by its four fields (R70). -/
theorem commandWord_eq_iff {op a b : Byte} {w : Word} :
    commandWord op a b = w ↔ opField w = op ∧ rsvField w = 0 ∧ aField w = a ∧ bField w = b := by
  constructor
  · rintro rfl
    simp
  · rintro ⟨rfl, hrsv, rfl, rfl⟩
    exact commandWord_of_fields w hrsv

/-- B[7:1] is zero exactly when B is 0 or 1 (R71). -/
theorem shiftRight_one_eq_zero_iff (b : Byte) : b >>> 1 = 0 ↔ b.toNat ≤ 1 := by
  revert b
  decide

theorem wellFormed_encPower_iff (b : Byte) : (Instr.encPower b).wellFormed = true ↔ b.toNat ≤ 1 := by
  rw [Instr.wellFormed, beq_iff_eq, shiftRight_one_eq_zero_iff]

/-- What a word that decodes has passed: R71's checks, then the opcode map. -/
theorem checks_of_decodeWord {w : Word} {i : Instr} (h : decodeWord w = .ok i) :
    rsvField w = 0 ∧ (opField w ≠ 0x05#8 → aField w = 0) ∧ (opField w = 0x01#8 → bField w >>> 1 = 0) ∧
    (0x06#8 ≤ opField w → bField w = 0) ∧ dispatchOpcode (opField w) (aField w) (bField w) = .ok i := by
  unfold decodeWord at h
  split_ifs at h with _ hrsv haddr hpower hoperand
  exact ⟨not_not.mp hrsv, fun hop => by_contra fun hne => haddr ⟨hop, hne⟩,
    fun hop => by_contra fun hne => hpower ⟨hop, hne⟩, fun hop => by_contra fun hne => hoperand ⟨hop, hne⟩, h⟩

/-- The encoding of a well-formed instruction passes every check of R71 and is dispatched to it. -/
theorem decodeWord_encode {i : Instr} (h : i.wellFormed = true) : decodeWord (encode i) = .ok i := by
  cases i with
  | encPower b =>
    have hb : b >>> 1 = 0 := beq_iff_eq.mp h
    simp [decodeWord, encode, dispatchOpcode, hb]
  | _ => simp [decodeWord, encode, dispatchOpcode]

/-- A word that decodes is made of the fields of the instruction: the checks leave it no other bit (R71, R76). -/
theorem wellFormed_and_encode_of_decodeWord {w : Word} {i : Instr} (h : decodeWord w = .ok i) :
    i.wellFormed = true ∧ encode i = w := by
  obtain ⟨hrsv, haddr, hpower, hoperand, hdispatch⟩ := checks_of_decodeWord h
  unfold dispatchOpcode at hdispatch
  split at hdispatch <;> cases hdispatch <;> rename_i hop <;> rw [hop] at haddr hpower hoperand
  case h_1 => exact ⟨beq_iff_eq.mpr (hpower rfl), commandWord_eq_iff.mpr ⟨hop, hrsv, haddr (by decide), rfl⟩⟩
  case h_5 => exact ⟨rfl, commandWord_eq_iff.mpr ⟨hop, hrsv, rfl, rfl⟩⟩
  case h_2 | h_3 | h_4 => exact ⟨rfl, commandWord_eq_iff.mpr ⟨hop, hrsv, haddr (by decide), rfl⟩⟩
  case h_6 | h_7 | h_8 =>
    exact ⟨rfl, commandWord_eq_iff.mpr ⟨hop, hrsv, haddr (by decide), hoperand (by decide)⟩⟩

/-- Decoding and encoding are inverse on the well-formed instructions. -/
theorem decodeWord_eq_ok_iff {w : Word} {i : Instr} : decodeWord w = .ok i ↔ i.wellFormed = true ∧ encode i = w := by
  constructor
  · exact wellFormed_and_encode_of_decodeWord
  · rintro ⟨hwf, rfl⟩
    exact decodeWord_encode hwf

/-- What says that a word is a well-formed instruction's encoding says that the word decodes to it. -/
theorem iff_decodeWord_of_iff_encode {w : Word} {i : Instr} {P : Prop} (hwf : i.wellFormed = true)
    (h : P ↔ encode i = w) : P ↔ decodeWord w = .ok i := by
  rw [decodeWord_eq_ok_iff, and_iff_right hwf, h]

/-- Settles O3: the word by `decodeWord_encode`, its lanes by what decoding four lanes is. -/
theorem decodeEncodeRoundTrip : Obligations.DecodeEncodeRoundTrip := by
  intro i hwf
  have hword := decodeWord_encode hwf
  refine ⟨hword, fun rest => ?_⟩
  rw [decode_laneBytes_append, hword]
  rfl

/-- Settles O4: from R71's checks and the row the opcode map takes. -/
theorem encodeDecodeRoundTrip : Obligations.EncodeDecodeRoundTrip :=
  fun _ _ => wellFormed_and_encode_of_decodeWord

/-- Settles O2: each word is the encoding of its operation. -/
theorem decodesWrittenOutWords : Obligations.DecodesWrittenOutWords := by
  unfold Obligations.DecodesWrittenOutWords
  decide

section rows
/-! The rows of the opcode map (R72), by the kind of operand they take. -/

/-- A word under a mask, field by field. -/
theorem and_eq_commandWord_iff (w : Word) (m0 m1 m2 m3 op a b : Byte) :
    w &&& wordOfLanes m0 m1 m2 m3 = commandWord op a b ↔
      opField w &&& m3 = op ∧ rsvField w &&& m2 = 0 ∧ aField w &&& m1 = a ∧ bField w &&& m0 = b := by
  have hmasked : w &&& wordOfLanes m0 m1 m2 m3 =
      wordOfLanes (bField w &&& m0) (aField w &&& m1) (rsvField w &&& m2) (opField w &&& m3) := by
    rw [← and_wordOfLanes]
    exact congrArg (· &&& _) (wordOfLanes_extract w).symm
  rw [hmasked, eq_comm, commandWord_eq_iff]
  simp only [opField, rsvField, aField, bField, extract0_wordOfLanes, extract8_wordOfLanes, extract16_wordOfLanes,
    extract24_wordOfLanes]

/-- The mask byte that keeps a field whole. -/
theorem and_byteMask (b : Byte) : b &&& 0xFF#8 = b := BitVec.and_allOnes

/-- A row with operand B. -/
theorem and_mask_B_iff (w : Word) (op : Byte) :
    w &&& 0xFFFFFF00 = commandWord op 0 0 ↔ commandWord op 0 (bField w) = w := by
  have hmask : (0xFFFFFF00 : Word) = wordOfLanes 0#8 0xFF 0xFF 0xFF := by decide
  rw [hmask, and_eq_commandWord_iff, commandWord_eq_iff]
  simp only [and_byteMask, BitVec.and_zero, BitVec.ofNat_eq_ofNat, and_true]

/-- The row with operands A and B. -/
theorem and_mask_AB_iff (w : Word) (op : Byte) :
    w &&& 0xFFFF0000 = commandWord op 0 0 ↔ commandWord op (aField w) (bField w) = w := by
  have hmask : (0xFFFF0000 : Word) = wordOfLanes 0#8 0#8 0xFF 0xFF := by decide
  rw [hmask, and_eq_commandWord_iff, commandWord_eq_iff]
  simp only [and_byteMask, BitVec.and_zero, BitVec.ofNat_eq_ofNat, and_true]

/-- The row with operand B[0]: the mask asks that B is at most 1. -/
theorem and_mask_B0_iff (w : Word) (op : Byte) :
    w &&& 0xFFFFFFFE = commandWord op 0 0 ↔ (bField w).toNat ≤ 1 ∧ commandWord op 0 (bField w) = w := by
  have hmask : (0xFFFFFFFE : Word) = wordOfLanes 0xFE 0xFF 0xFF 0xFF := by decide
  have hbits : ∀ b : Byte, b &&& 0xFE = 0 ↔ b.toNat ≤ 1 := by decide
  rw [hmask, and_eq_commandWord_iff, commandWord_eq_iff, hbits]
  simp only [and_byteMask, BitVec.ofNat_eq_ofNat, and_true]
  tauto

/-- A row without operands has the one word. -/
theorem and_mask_all_iff (w v : Word) : w &&& 0xFFFFFFFF = v ↔ v = w := by
  rw [show w &&& 0xFFFFFFFF = w from BitVec.and_allOnes, eq_comm]

end rows

/-- Settles O5: a row's mask leaves the operand open, and what it pins is that the word is the encoding. -/
theorem decodeFollowsMatchMask : Obligations.DecodeFollowsMatchMask := by
  intro w
  refine ⟨?power, ?mode, ?temp, ?fan, ?pair, ?word, ?pulses, ?transmit⟩
  case power =>
    refine (and_mask_B0_iff w 0x01).trans ?_
    simp only [decodeWord_eq_ok_iff, wellFormed_encPower_iff]
    constructor
    · rintro ⟨hb, hw⟩
      exact ⟨bField w, ⟨hb, hw⟩, rfl, hb⟩
    · rintro ⟨b, hdecode, rfl, -⟩
      exact hdecode
  case mode => exact iff_decodeWord_of_iff_encode rfl (and_mask_B_iff w 0x02)
  case temp => exact iff_decodeWord_of_iff_encode rfl (and_mask_B_iff w 0x03)
  case fan => exact iff_decodeWord_of_iff_encode rfl (and_mask_B_iff w 0x04)
  case pair => exact iff_decodeWord_of_iff_encode rfl (and_mask_AB_iff w 0x05)
  case word => exact iff_decodeWord_of_iff_encode rfl (and_mask_all_iff w _)
  case pulses => exact iff_decodeWord_of_iff_encode rfl (and_mask_all_iff w _)
  case transmit => exact iff_decodeWord_of_iff_encode rfl (and_mask_all_iff w _)

/-- OP as a number (R70). -/
theorem toNat_opField (w : Word) : (opField w).toNat = (w >>> 24).toNat := by
  have hw := w.isLt
  rw [opField, BitVec.extractLsb'_toNat, BitVec.toNat_ushiftRight, Nat.shiftRight_eq_div_pow]
  omega

/-- RSV as a number (R70). -/
theorem toNat_rsvField (w : Word) : (rsvField w).toNat = (w >>> 16).toNat % 256 := by
  rw [rsvField, BitVec.extractLsb'_toNat, BitVec.toNat_ushiftRight]

end Sys2Proof

namespace Sys2Proof.Machine

/-- R71's checks, in numbers: the word is not the encoding of a well-formed instruction. -/
def IllegalWord (w : Word) : Prop :=
  (w >>> 24).toNat < 1 ∨ 8 < (w >>> 24).toNat ∨ (w >>> 16).toNat % 256 ≠ 0 ∨ ((w >>> 24).toNat ≠ 5 ∧ aField w ≠ 0) ∨
    ((w >>> 24).toNat = 1 ∧ 1 < (bField w).toNat) ∨ (6 ≤ (w >>> 24).toNat ∧ bField w ≠ 0)

theorem not_illegalWord_encode {i : Instr} (h : i.wellFormed = true) : ¬ IllegalWord (encode i) := by
  unfold IllegalWord
  rw [← toNat_opField, ← toNat_rsvField]
  cases i with
  | encPower b => simpa [encode] using (wellFormed_encPower_iff b).mp h
  | _ => simp [encode]

/-- A word that fails a check is no encoding, so it does not decode, and raises ILLEGAL_COMMAND (R71). -/
theorem acceptCommand_of_illegalWord {w : Word} (h : IllegalWord w) (s : State) :
    acceptCommand w s = .next { s with cmd := w, err := 0x3 } := by
  cases hdecode : decodeWord w with
  | error e => exact acceptCommand_of_illegal hdecode s
  | ok i =>
    obtain ⟨hwf, rfl⟩ := wellFormed_and_encode_of_decodeWord hdecode
    exact absurd h (not_illegalWord_encode hwf)

/-- The acceptance of a well-formed instruction's word runs the instruction (10_state R22). -/
theorem acceptCommand_of_encode {w : Word} {i : Instr} (hwf : i.wellFormed = true) (hw : encode i = w) (s : State) :
    acceptCommand w s = exec i { s with cmd := w } :=
  acceptCommand_of_decode (decodeWord_eq_ok_iff.mpr ⟨hwf, hw⟩) s

/-- Settles O6: an illegal word is no encoding, so it does not decode; any other is the encoding of its row's operation. -/
theorem everyWordDispatchesOrRaises : Obligations.EveryWordDispatchesOrRaises := by
  intro w s op rsv a b illegal
  refine ⟨fun h => acceptCommand_of_illegalWord h s, fun hlegal => ?_⟩
  change ¬ IllegalWord w at hlegal
  simp only [IllegalWord, not_or, not_and, not_not] at hlegal
  obtain ⟨-, -, hrsv, haddr, hpower, hoperand⟩ := hlegal
  have hrsv' : rsvField w = 0 := BitVec.eq_of_toNat_eq ((toNat_rsvField w).trans hrsv)
  have hopcode {k : Byte} (hop : op = k.toNat) : opField w = k := BitVec.eq_of_toNat_eq ((toNat_opField w).trans hop)
  have hA (hop : op ≠ 5) : aField w = 0 := haddr hop
  have hB (hop : 6 ≤ op) : bField w = 0 := hoperand hop
  simp only [List.forall_mem_cons]
  refine ⟨?power, ?mode, ?temp, ?fan, ?pair, ?word, ?pulses, ?transmit, by simp⟩ <;> intro hop <;>
    refine acceptCommand_of_encode ?_ ?_ s
  case power.refine_1 => exact (wellFormed_encPower_iff _).mpr (Nat.le_of_not_lt (hpower hop))
  case power.refine_2 => exact commandWord_eq_iff.mpr ⟨hopcode hop, hrsv', hA (by omega), rfl⟩
  case pair.refine_2 => exact commandWord_eq_iff.mpr ⟨hopcode hop, hrsv', rfl, rfl⟩
  case mode.refine_2 | temp.refine_2 | fan.refine_2 =>
    exact commandWord_eq_iff.mpr ⟨hopcode hop, hrsv', hA (by omega), rfl⟩
  case word.refine_2 | pulses.refine_2 | transmit.refine_2 =>
    exact commandWord_eq_iff.mpr ⟨hopcode hop, hrsv', hA (by omega), hB (by omega)⟩
  all_goals rfl

end Sys2Proof.Machine
end

section
/-! PROOFS. The assembler's words (30_encoding R77): each form's word is the encoding of its operation. -/

namespace Sys2Proof

/-- A command word as a number (R70). -/
theorem toNat_commandWord (op a b : Byte) :
    (commandWord op a b).toNat = 0x1000000 * op.toNat + 0x100 * a.toNat + b.toNat := by
  rw [commandWord, toNat_wordOfLanes]
  simp

/-- Zero extension to a word keeps a byte's number. -/
theorem toNat_zeroExtend_byte (b : Byte) : (b.zeroExtend 32).toNat = b.toNat :=
  BitVec.toNat_setWidth_of_le (by decide)

end Sys2Proof

namespace Sys2Proof.Machine

/-- Adding a byte to a word whose B is zero sets B. -/
theorem commandWord_add_B (op a b : Byte) : commandWord op a 0 + b.zeroExtend 32 = commandWord op a b := by
  have hop := op.isLt
  have ha := a.isLt
  have hb := b.isLt
  have hzero : (0 : Byte).toNat = 0 := rfl
  apply BitVec.eq_of_toNat_eq
  rw [BitVec.toNat_add, toNat_commandWord, toNat_commandWord, toNat_zeroExtend_byte, hzero]
  omega

/-- Adding a byte eight bits up to a word without operands sets A. -/
theorem commandWord_add_A (op a : Byte) : commandWord op 0 0 + a.zeroExtend 32 <<< 8 = commandWord op a 0 := by
  have hop := op.isLt
  have ha := a.isLt
  have hzero : (0 : Byte).toNat = 0 := rfl
  apply BitVec.eq_of_toNat_eq
  rw [BitVec.toNat_add, BitVec.toNat_shiftLeft, Nat.shiftLeft_eq, toNat_commandWord, toNat_commandWord,
    toNat_zeroExtend_byte, hzero]
  omega

theorem assemble_encModeRaw (n : Byte) : assemble (.encModeRaw n) = some (encode (.encMode n)) :=
  congrArg some (commandWord_add_B 0x02 0 n)

theorem assemble_encFanRaw (n : Byte) : assemble (.encFanRaw n) = some (encode (.encFan n)) :=
  congrArg some (commandWord_add_B 0x04 0 n)

theorem assemble_encPair (a c : Byte) : assemble (.encPair a c) = some (encode (.encPair a c)) := by
  rw [encode, ← commandWord_add_B, ← commandWord_add_A]
  rfl

/-- The operand byte of a temperature: its two's complement (R75). -/
theorem zeroExtend_ofInt (t : Int) : (BitVec.ofInt 8 t).zeroExtend 32 = BitVec.ofInt 32 (t % 256) := by
  apply BitVec.eq_of_toNat_eq
  rw [toNat_zeroExtend_byte, BitVec.toNat_ofInt, BitVec.toNat_ofInt]
  omega

theorem assemble_encTemp {t : Int} (hlo : -128 ≤ t) (hhi : t ≤ 127) :
    assemble (.encTemp t) = some (encode (.encTemp (BitVec.ofInt 8 t))) := by
  rw [assemble, if_pos ⟨hlo, hhi⟩, ← zeroExtend_ofInt]
  exact congrArg some (commandWord_add_B 0x03 0 _)

/-- A host must not truncate a temperature into B (R75). -/
theorem assemble_encTemp_eq_none {t : Int} (h : t < -128 ∨ 127 < t) : assemble (.encTemp t) = none :=
  if_neg (by omega)

/-- A temperature that has a byte is that byte read as a signed number (R75). -/
theorem toInt_ofInt_byte {t : Int} (hlo : -128 ≤ t) (hhi : t ≤ 127) : (BitVec.ofInt 8 t).toInt = t :=
  BitVec.toInt_ofInt_eq_self (by decide) hlo (Int.lt_add_one_of_le hhi)

/-- A form whose word is an encoding has a word that decodes to the operation. -/
theorem decode_assemble {c : Command} {i : Instr} (hwf : i.wellFormed = true) (h : assemble c = some (encode i)) :
    (assemble c).map decodeWord = some (.ok i) := by
  rw [h, Option.map_some, decodeWord_encode hwf]

/-- Settles O58: the listed names by evaluation, the forms with an operand through the encoding of their operation. -/
theorem assemblerWords : Obligations.AssemblerWords := by
  refine ⟨by decide, by decide, fun n => decode_assemble rfl (assemble_encModeRaw n), fun t hlo hhi => ?temp,
    fun _ h => assemble_encTemp_eq_none h, by decide, fun n => decode_assemble rfl (assemble_encFanRaw n),
    fun a c => decode_assemble rfl (assemble_encPair a c), rfl, rfl, rfl, fun _ => rfl⟩
  case temp => exact ⟨_, toInt_ofInt_byte hlo hhi, decode_assemble rfl (assemble_encTemp hlo hhi)⟩

end Sys2Proof.Machine
end

section
/-! PROOFS. The host's decisions on what it reads in STATUS (30_encoding R78): `wait.idle` and the check of `send.temp`. -/

namespace Sys2Proof.Machine

/-- Settles O60: the turn at `wait.idle` by BUSY. -/
theorem waitIdlePolls : Obligations.WaitIdlePolls := by
  intro s q sch hturn hline
  have hbusy : (setSchedule sch s).busy = s.busy := busy_congr (setSchedule_txState sch s)
  simp only [step, hturn, takeTurn, hostTurn, setSchedule_host, hline, hbusy]
  rfl

/-- A turn at the check of STATUS reads it, and leaves out the lines it guards exactly when ERR is not NONE (log 17). -/
theorem step_of_stopIfErr {s : State} {k : Nat} {q : List HostLine} {sch : List Turn} (hturn : s.schedule = .host :: sch)
    (hline : s.host = .stopIfErr k :: q) :
    step s = .next { s.completed statusRead (.data s.statusWord) q sch with
      host := if s.err = ErrCode.none.code then q else q.drop k } := by
  simp only [step, hturn, takeTurn, hostTurn, setSchedule_host, hline]
  rfl

/-- ENC_TEMP of the default build outside 16..30 records OUT_OF_RANGE and keeps the old frame (R93, R96). -/
theorem encTempFor_rejected {b : Byte} (h : b.toInt < 16 ∨ 30 < b.toInt) (s : State) :
    encTempFor namedBuild b s = { s with err := 0x1 } :=
  finishIntent_of_eq_none (by rw [tempOperand_eq_toInt, tempCommand_eq_none _ h]) ..

/-- ENC_TEMP of the default build inside 16..30 frames the temperature itself, TEMP_BASE being 16 (R4, R93). -/
theorem encTempFor_accepted {b : Byte} (hlo : 16 ≤ b.toInt) (hhi : b.toInt ≤ 30) (s : State) :
    ∃ c : Byte, encTempFor namedBuild b s = emitFrame 0x00 c s ∧ c.toNat = b.toInt.toNat := by
  obtain ⟨c, hsome, hexact⟩ := tempCommand_exact (bld := namedBuild) (by decide) hlo hhi
  have hbase : ((namedBuild.tempBase.toNat : Nat) : Int) = 16 := rfl
  refine ⟨c, ?_, by omega⟩
  rw [encTempFor, tempOperand_eq_toInt, hsome]
  rfl

/-- The lines of `send.temp t`: it has some only when t is a byte, whose command, check, TRANSMIT and wait they are (R78). -/
theorem expand_sendTemp {t : Int} {ls : List HostLine} (h : expand (.sendTemp t) = some ls) :
    ∃ b : Byte, b.toInt = t ∧ ls = [.access (.write 0x000 .word (encode (.encTemp b))), .stopIfErr 2,
      .access (.write 0x000 .word 0x08000000), .waitIdle] := by
  by_cases hword : -128 ≤ t ∧ t ≤ 127
  · obtain ⟨hlo, hhi⟩ := hword
    rw [expand, commandLine, assemble_encTemp hlo hhi] at h
    cases h
    exact ⟨_, toInt_ofInt_byte hlo hhi, rfl⟩
  · rw [expand, commandLine, assemble_encTemp_eq_none (by omega)] at h
    cases h

/-- Settles O59: the first turn is ENC_TEMP's step and the second the check, which finds the ERR that ENC_TEMP left. -/
theorem sendTempGuardsTransmit : Obligations.SendTempGuardsTransmit := by
  intro t ls q s sch hexpand hidle hhost hturn
  obtain ⟨b, rfl, rfl⟩ := expand_sendTemp hexpand
  have hencode : step s = .next (encTempFor namedBuild b _) :=
    (step_of_issues_cmd ⟨hturn, hhost⟩ hidle).trans (acceptCommand_of_encode (i := .encTemp b) rfl rfl _)
  by_cases hrange : 16 ≤ b.toInt ∧ b.toInt ≤ 30
  · obtain ⟨hlo, hhi⟩ := hrange
    obtain ⟨c, hframe, hc⟩ := encTempFor_accepted hlo hhi _
    rw [hframe] at hencode
    refine ⟨_, (run_succ_of_next hencode 1).trans (run_succ_of_next (step_of_stopIfErr rfl rfl) 0), rfl, rfl,
      fun hout => by omega, fun _ _ => ⟨rfl, rfl, rfl, ?_⟩⟩
    exact (congrArg BitVec.toNat (pairCmd_emitFrame 0x00 c _)).trans hc
  · rw [encTempFor_rejected (by omega)] at hencode
    exact ⟨_, (run_succ_of_next hencode 1).trans (run_succ_of_next (step_of_stopIfErr rfl rfl) 0), rfl, rfl,
      fun _ => ⟨rfl, rfl, rfl, rfl⟩, fun hlo hhi => absurd ⟨hlo, hhi⟩ hrange⟩

end Sys2Proof.Machine
end

section
/-! PROOFS. The four intents at their operands, in the default build (40_intent_mapper R90 to R94), and what an operation
leaves alone: after an error all but CMD and ERR (R96), and always the registers that are not its destinations. -/

namespace Sys2Proof.Machine

/-- Settles O18: ENC_POWER always emits, and the default build's command bytes are 0x08 and 0x09. -/
theorem encPowerFramesCommand : Obligations.EncPowerFramesCommand := by
  intro b s
  exact ⟨_, rfl, framed_emitFrame 0x00 (if b.getLsbD 0 then 0x08 else 0x09) s⟩

/-- The default build's mode commands follow the codes, from 0x30 (R92). -/
theorem modeCommand_of_code {m : Byte} (h : m.toNat < 5) :
    (modeOfCode m).map (modeCommand namedBuild) = some (BitVec.ofNat 8 (0x30 + m.toNat)) := by
  have by_number : ∀ k < 5, (modeOfCode (BitVec.ofNat 8 k)).map (modeCommand namedBuild) =
      some (BitVec.ofNat 8 (0x30 + k)) := by decide
  simpa using by_number m.toNat h

/-- Settles O19: a code below 5 has its command byte, any other has none. -/
theorem encModeFramesOrRejects : Obligations.EncModeFramesOrRejects := by
  refine fun m s => ⟨fun hcode => ⟨_, rfl, framed_finishIntent (modeCommand_of_code hcode) ..⟩, fun hcode => ?_⟩
  have no_command : (modeOfCode m).map (modeCommand namedBuild) = none := by rw [modeOfCode_eq_none hcode]; rfl
  exact congrArg Host.Outcome.next (finishIntent_of_eq_none no_command ..)

/-- The default build's fan commands follow the codes, from 0x40 (R94). -/
theorem fanCommand_of_code {f : Byte} (h : f.toNat < 4) :
    (fanOfCode f).map (fanCommand namedBuild) = some (BitVec.ofNat 8 (0x40 + f.toNat)) := by
  have by_number : ∀ k < 4, (fanOfCode (BitVec.ofNat 8 k)).map (fanCommand namedBuild) =
      some (BitVec.ofNat 8 (0x40 + k)) := by decide
  simpa using by_number f.toNat h

/-- Settles O21: a code below 4 has its command byte, any other has none. -/
theorem encFanFramesOrRejects : Obligations.EncFanFramesOrRejects := by
  refine fun f s => ⟨fun hcode => ⟨_, rfl, framed_finishIntent (fanCommand_of_code hcode) ..⟩, fun hcode => ?_⟩
  have no_command : (fanOfCode f).map (fanCommand namedBuild) = none := by rw [fanOfCode_eq_none hcode]; rfl
  exact congrArg Host.Outcome.next (finishIntent_of_eq_none no_command ..)

/-- Settles O20: inside 16..30 the command byte is the temperature itself, TEMP_BASE being 16. -/
theorem encTempFramesOrRejects : Obligations.EncTempFramesOrRejects := by
  refine fun b s => ⟨?accepted, fun hout => congrArg Host.Outcome.next (encTempFor_rejected hout s)⟩
  rintro ⟨hlo, hhi⟩
  obtain ⟨c, hframe, hc⟩ := encTempFor_accepted hlo hhi s
  exact ⟨c, emitFrame 0x00 c s, by omega, congrArg Host.Outcome.next hframe, framed_emitFrame 0x00 c s⟩

/-- An operation that ends with an error code has written ERR and nothing else, and the code is not HARDWARE's: only the
sequencer records that one (60_exceptions R170, R171). -/
theorem commandEffect_of_err_ne_none {s t : State} (h : CommandEffect s t) (herr : t.err ≠ ErrCode.none.code) :
    t = { s with err := t.err } ∧ t.err ≤ 0x4#4 := by
  cases h with
  | error e hsoft =>
    refine ⟨rfl, ?_⟩
    rw [raiseErr_err]
    cases e with
    | hardware => exact absurd rfl hsoft
    | _ => decide
  | frame a c => exact absurd rfl herr
  | report w x => exact absurd rfl herr
  | noFormat => exact absurd rfl herr
  | start _ => exact absurd rfl herr

/-- Settles O29: acceptance writes CMD, and then has one of an operation's effects. -/
theorem errorsChangeOnlyCmdAndErr : Obligations.ErrorsChangeOnlyCmdAndErr :=
  fun _ _ _ haccept herr => commandEffect_of_err_ne_none (acceptCommand_effect haccept) herr

section destinations
/-! The registers an operation can write, and the bytes of the window outside them. -/

variable {s t : State}

/-- What an encoder can write: STATUS, PAIR, FRAMEWORD and the pulse buffer (41_frame_generator R104). -/
def EncoderDestination (r : Reg) : Prop :=
  r = .status ∨ r = .pair ∨ r = .frameWord ∨ ∃ k, r = .pulse k

/-- The registers of the window an operation can write (R90, 42_complement_validator R122, R123, 43_transmit R143). -/
def Destination (i : Instr) (r : Reg) : Prop :=
  match i with
  | .encPower _ | .encMode _ | .encTemp _ | .encFan _ | .encPair _ _ => EncoderDestination r
  | .validateWord => r = .status ∨ r = .rxResult
  | .validatePulses => r = .status ∨ r = .rxWord ∨ r = .rxResult
  | .transmit => r = .status ∨ r = .hwErr

theorem readReg_setErr {r : Reg} (hr : r ≠ .status) (e : ErrCode) (s : State) :
    readReg r (setErr e s) = readReg r s := by
  cases r with
  | status => exact absurd rfl hr
  | _ => rfl

theorem readReg_emitFrame {r : Reg} (hr : ¬ EncoderDestination r) (a c : Byte) (s : State) :
    readReg r (emitFrame a c s) = readReg r s := by
  simp only [EncoderDestination, not_or, not_exists] at hr
  obtain ⟨hstatus, hpair, hframe, hpulse⟩ := hr
  cases r with
  | status => exact absurd rfl hstatus
  | pair => exact absurd rfl hpair
  | frameWord => exact absurd rfl hframe
  | pulse k => exact absurd rfl (hpulse k)
  | _ => rfl

/-- An intent frames or records an error, and reaches no register of another kind (R90, R96). -/
theorem readReg_finishIntent {r : Reg} (hr : ¬ EncoderDestination r) (bld : Build) (e : ErrCode) (c : Option Byte)
    (s : State) : readReg r (finishIntent bld e c s) = readReg r s := by
  cases c with
  | some c => exact readReg_emitFrame hr _ c s
  | none => exact readReg_setErr (fun h => hr (.inl h)) e s

theorem readReg_setRxWord {r : Reg} (hr : r ≠ .rxWord) (v : Word) (s : State) :
    readReg r (setRxWord v s) = readReg r s := by
  cases r with
  | rxWord => exact absurd rfl hr
  | _ => rfl

theorem readReg_withRxResult {r : Reg} (hr : r ≠ .rxResult) (v : Word) (s : State) :
    readReg r { s with rxResult := v } = readReg r s := by
  cases r with
  | rxResult => exact absurd rfl hr
  | _ => rfl

theorem readReg_reportWord {r : Reg} (hr : ¬ (r = .status ∨ r = .rxResult)) (w : Word) (s : State) :
    readReg r (reportWord w s) = readReg r s := by
  obtain ⟨hstatus, hresult⟩ := not_or.mp hr
  exact (readReg_setErr hstatus .none _).trans (readReg_withRxResult hresult _ s)

theorem readReg_startTransmit {r : Reg} (hr : ¬ (r = .status ∨ r = .hwErr)) (s : State) :
    readReg r (startTransmit s) = readReg r s := by
  obtain ⟨hstatus, hhw⟩ := not_or.mp hr
  cases r with
  | status => exact absurd rfl hstatus
  | hwErr => exact absurd rfl hhw
  | _ => rfl

/-- A register that is not a destination of the operation reads after it as before it. -/
theorem exec_keeps_readReg {i : Instr} {r : Reg} (h : exec i s = .next t) (hr : ¬ Destination i r) :
    readReg r t = readReg r s := by
  cases i with
  | encPower b | encPair a c => cases h; exact readReg_emitFrame hr ..
  | encMode _ | encTemp _ | encFan _ => cases h; exact readReg_finishIntent hr ..
  | validateWord => cases h; exact readReg_reportWord hr ..
  | validatePulses =>
    obtain ⟨hstatus, hrest⟩ := not_or.mp hr
    obtain ⟨hword, hresult⟩ := not_or.mp hrest
    simp only [exec, execValidatePulses] at h
    split at h <;> cases h
    · exact (readReg_reportWord (not_or.mpr ⟨hstatus, hresult⟩) ..).trans (readReg_setRxWord hword _ s)
    · exact (readReg_setErr hstatus .none _).trans (readReg_withRxResult hresult _ s)
  | transmit =>
    simp only [exec, execTransmit] at h
    split at h <;> cases h
    · exact readReg_startTransmit hr s
    · exact readReg_setErr (not_or.mp hr).1 .noFrame s

/-- A byte of the window reads the same when the register it lies in does, if there is one (20_memory R57). -/
theorem windowByte?_congr {off : Nat}
    (h : ∀ r, regOffset r ≤ off → off < regOffset r + 4 → readReg r t = readReg r s) :
    t.windowByte? off = s.windowByte? off := by
  unfold State.windowByte?
  cases hreg : regAt (4 * (off / 4)) with
  | none => rfl
  | some r =>
    have hoff := regAt_eq_some.mp hreg
    simp only [h r (by omega) (by omega)]

/-- The bytes of an encoder's destinations (20_memory R51). -/
theorem encoderDestination_bytes {r : Reg} (hr : EncoderDestination r) {off : Nat} (hlo : regOffset r ≤ off)
    (hhi : off < regOffset r + 4) :
    (0x004 ≤ off ∧ off < 0x008) ∨ (0x008 ≤ off ∧ off < 0x010) ∨ (0x100 ≤ off ∧ off < 0x20C) := by
  obtain rfl | rfl | rfl | ⟨k, rfl⟩ := hr <;> simp only [regOffset] at hlo hhi <;> omega

end destinations

/-- Settles O26: a byte outside the operation's destinations lies in a register that is none of them, or in no register. -/
theorem windowBytesFrame : Obligations.WindowBytesFrame := by
  intro i s
  obtain ⟨t, ht⟩ := exec_completes i s
  refine ⟨t, ht, fun off hstatus hoff => windowByte?_congr fun r hlo hhi => exec_keeps_readReg ht fun hr => ?_⟩
  cases i with
  | encPower _ | encMode _ | encTemp _ | encFan _ | encPair _ _ =>
    obtain ⟨hpair, hpulse⟩ := hoff
    obtain h | h | h := encoderDestination_bytes hr hlo hhi
    · exact hstatus h
    · exact hpair h
    · exact hpulse h
  | validateWord =>
    obtain rfl | rfl := hr
    · exact hstatus ⟨hlo, hhi⟩
    · exact hoff ⟨hlo, hhi⟩
  | validatePulses =>
    obtain rfl | rfl | rfl := hr <;> simp only [regOffset] at hlo hhi hoff <;> omega
  | transmit =>
    obtain rfl | rfl := hr
    · exact hstatus ⟨hlo, hhi⟩
    · exact hoff ⟨hlo, hhi⟩

end Sys2Proof.Machine
end

section
/-! PROOFS. The properties of every frame (41_frame_generator R100 to R108): its data bits by number, the word they pack
into, and the ones of a byte and of its complement. -/

namespace Sys2Proof.Machine

section commit
/-! The commit step and the raw operation (R104, R105). -/

/-- Settles O28: `framed_emitFrame`, for every pair and state. -/
theorem emitFrameCommits : Obligations.EmitFrameCommits := framed_emitFrame

/-- Settles O22: ENC_PAIR is EmitFrame of its operands. -/
theorem encPairFramesOperands : Obligations.EncPairFramesOperands :=
  fun a c s => ⟨emitFrame a c s, rfl, framed_emitFrame a c s⟩

end commit

section complement
/-! The complement of a byte (R103). -/

variable (b : Byte)

theorem toNat_add_toNat_cpl : b.toNat + (cpl b).toNat = 255 := by
  have hb := b.isLt
  rw [toNat_cpl]
  omega

/-- A byte and its complement sum to an odd number. -/
theorem cpl_ne_self : cpl b ≠ b := by
  intro heq
  have hsum := toNat_add_toNat_cpl b
  rw [heq] at hsum
  omega

/-- The complement of a byte flips each of its eight bits. -/
theorem getLsbD_cpl {i : Nat} (hi : i < 8) : (cpl b).getLsbD i = !b.getLsbD i := by
  rw [cpl, BitVec.getLsbD_not, decide_eq_true hi, Bool.true_and]

theorem xor_cpl : b ^^^ cpl b = 0xFF := by
  change b ^^^ cpl b = BitVec.allOnes 8
  apply BitVec.eq_of_getLsbD_eq
  intro i hi
  rw [BitVec.getLsbD_xor, getLsbD_cpl b hi, BitVec.getLsbD_allOnes, decide_eq_true hi, Bool.xor_not_self]

end complement

/-- Settles O36: 0xFF is the byte of eight ones, so the mask keeps every bit. -/
theorem complementOfByte : Obligations.ComplementOfByte :=
  ⟨fun b => ⟨BitVec.and_allOnes.symm, BitVec.not_not, xor_cpl b, toNat_add_toNat_cpl b, cpl_ne_self b⟩, rfl, rfl⟩

section dataBits
/-! The 32 data bits of a frame, numbered as they go on the air (R101). -/

variable (a c : Byte)

/-- Bit i of byte field k is the (8k + i)-th data bit (R101). -/
def dataBit (k : Fin 4) (i : Fin 8) : Fin 32 := ⟨8 * k.val + i.val, by omega⟩

@[simp] theorem val_dataBit (k : Fin 4) (i : Fin 8) : (dataBit k i).val = 8 * k.val + i.val := rfl

theorem exists_dataBit (n : Fin 32) : ∃ k i, n = dataBit k i :=
  ⟨⟨n.val / 8, by omega⟩, ⟨n.val % 8, by omega⟩, Fin.ext (Nat.div_add_mod n.val 8).symm⟩

theorem finRange_eq_dataBits :
    List.finRange 32 = (List.finRange 4).flatMap fun k => (List.finRange 8).map (dataBit k) := by
  decide

theorem dataMark_necFrame (n : Fin 32) : dataMark (necFrame a c) n = 560 := by
  obtain ⟨k, i, rfl⟩ := exists_dataBit n
  obtain ⟨-, -, -, hbits⟩ := isFrame_necFrame a c
  have mark_index : 2 + 2 * (dataBit k i).val = 2 + 16 * k.val + 2 * i.val := by
    rw [val_dataBit]
    omega
  simp only [dataMark, mark_index, (hbits k i).1]

theorem dataSpace_necFrame (k : Fin 4) (i : Fin 8) :
    dataSpace (necFrame a c) (dataBit k i) = if (frameField a c k).getLsbD i.val then 1690 else 560 := by
  obtain ⟨-, -, -, hbits⟩ := isFrame_necFrame a c
  have space_index : 3 + 2 * (dataBit k i).val = 3 + 16 * k.val + 2 * i.val := by
    rw [val_dataBit]
    omega
  simp only [dataSpace, space_index, (hbits k i).2]

theorem dataSpace_necFrame_eq (n : Fin 32) :
    dataSpace (necFrame a c) n = 560 ∨ dataSpace (necFrame a c) n = 1690 := by
  obtain ⟨k, i, rfl⟩ := exists_dataBit n
  rw [dataSpace_necFrame]
  split
  · exact .inr rfl
  · exact .inl rfl

/-- The space of a data bit is long exactly when the bit is 1 (R101). -/
theorem necFrame_space_eq_one_iff (k : Fin 4) (i : Fin 8) :
    (necFrame a c)[3 + 16 * k.val + 2 * i.val] = 1690 ↔ (frameField a c k).getLsbD i.val = true := by
  obtain ⟨-, -, -, hbits⟩ := isFrame_necFrame a c
  rw [(hbits k i).2]
  cases (frameField a c k).getLsbD i.val <;> decide

end dataBits

/-- Settles O31: past the header, an even index is that of a data bit's mark or of the stop mark, and an odd one that of a
data bit's space. -/
theorem frameShape : Obligations.FrameShape := by
  intro a c
  refine ⟨necFrameList_length a c, rfl, rfl, fun k hk heven hlo => ?mark, fun k hk hodd hlo => ?space⟩
  case mark =>
    obtain rfl | hdata : k = 66 ∨ k < 66 := by omega
    · rfl
    · obtain ⟨n, rfl⟩ : ∃ n : Fin 32, k = 2 + 2 * n.val := ⟨⟨k / 2 - 1, by omega⟩, by simp only; omega⟩
      exact dataMark_necFrame a c n
  case space =>
    obtain ⟨n, rfl⟩ : ∃ n : Fin 32, k = 3 + 2 * n.val := ⟨⟨k / 2 - 1, by omega⟩, by simp only; omega⟩
    exact dataSpace_necFrame_eq a c n

/-- Settles O32: the two concatenations are the definitions of BitPulses and NecFrame. -/
theorem frameBitOrder : Obligations.FrameBitOrder :=
  ⟨fun _ => rfl, fun a c => ⟨rfl, isFrame_necFrame a c⟩⟩

/-- One frame spells one byte in each field. -/
theorem frameField_eq_of_necFrame_eq {a c a' c' : Byte} (h : necFrame a c = necFrame a' c') (k : Fin 4) :
    frameField a c k = frameField a' c' k := by
  apply BitVec.eq_of_getLsbD_eq
  intro i hi
  rw [Bool.eq_iff_iff, ← necFrame_space_eq_one_iff a c k ⟨i, hi⟩, ← necFrame_space_eq_one_iff a' c' k ⟨i, hi⟩, h]

/-- Settles O34: field 0 is the address and field 2 the command. -/
theorem frameDeterminesPair : Obligations.FrameDeterminesPair :=
  fun _ _ _ _ h => ⟨frameField_eq_of_necFrame_eq h 0, frameField_eq_of_necFrame_eq h 2⟩

/-- Byte k of the frame word is field k (R102). -/
theorem extractLsb'_frameWordOf (a c : Byte) (k : Fin 4) :
    (frameWordOf a c).extractLsb' (8 * k.val) 8 = frameField a c k :=
  match k with
  | 0 => extract0_wordOfLanes ..
  | 1 => extract8_wordOfLanes ..
  | 2 => extract16_wordOfLanes ..
  | 3 => extract24_wordOfLanes ..

/-- Bit 8k + i of the frame word is bit i of field k (R102). -/
theorem getLsbD_frameWordOf (a c : Byte) (k : Fin 4) (i : Fin 8) :
    (frameWordOf a c).getLsbD (8 * k.val + i.val) = (frameField a c k).getLsbD i.val := by
  rw [← extractLsb'_frameWordOf, BitVec.getLsbD_extractLsb', decide_eq_true i.isLt, Bool.true_and]

/-- Settles O35: the word's bit and the space carry the same bit of the same field. -/
theorem frameWordPacking : Obligations.FrameWordPacking := by
  intro a c
  refine ⟨frameWordOf_eq_frameRegister a c, fun k i => ⟨getLsbD_frameWordOf a c k i, ?_⟩⟩
  rw [getLsbD_frameWordOf, necFrame_space_eq_one_iff]

section duration
/-! The constant on-air length (R107). -/

/-- The one-bits of a byte. -/
def oneBits (b : Byte) : Nat := (List.range 8).countP b.getLsbD

/-- Where a byte has a 0 its complement has a 1 (R107). -/
theorem oneBits_add_oneBits_cpl (b : Byte) : oneBits b + oneBits (cpl b) = 8 := by
  have flipped : oneBits (cpl b) = (List.range 8).countP fun i => decide ¬b.getLsbD i = true :=
    List.countP_congr fun i hi => by simp [getLsbD_cpl b (List.mem_range.mp hi)]
  rw [flipped, oneBits, ← List.length_eq_countP_add_countP, List.length_range]

/-- A bit takes two short durations, and 1130 more when it is 1 (R101). -/
theorem sum_bitPulse (bit : Bool) : ((bitPulse bit).map BitVec.toNat).sum = 1120 + 1130 * bit.toNat := by
  cases bit <;> rfl

theorem sum_flatMap_bitPulse (f : Nat → Bool) (l : List Nat) :
    ((l.flatMap fun i => bitPulse (f i)).map BitVec.toNat).sum = 1120 * l.length + 1130 * l.countP f := by
  induction l with
  | nil => rfl
  | cons i l ih =>
    rw [List.flatMap_cons, List.map_append, List.sum_append, ih, sum_bitPulse, List.length_cons, List.countP_cons]
    cases f i <;> simp only [Bool.toNat_true, Bool.toNat_false, if_true, Bool.false_eq_true, if_false] <;> omega

/-- A byte takes 16 short durations, and 1130 µs more for each of its ones. -/
theorem sum_bitPulses (b : Byte) : ((bitPulses b).map BitVec.toNat).sum = 8960 + 1130 * oneBits b :=
  sum_flatMap_bitPulse b.getLsbD (List.range 8)

/-- A byte followed by its complement takes 26960 µs, whatever the byte. -/
theorem sum_bitPulses_add_cpl (b : Byte) :
    ((bitPulses b).map BitVec.toNat).sum + ((bitPulses (cpl b)).map BitVec.toNat).sum = 26960 := by
  have hones := oneBits_add_oneBits_cpl b
  rw [sum_bitPulses, sum_bitPulses]
  omega

theorem sum_necFrame (a c : Byte) : ((necFrame a c).toList.map BitVec.toNat).sum = 67980 := by
  have haddr := sum_bitPulses_add_cpl a
  have hcmd := sum_bitPulses_add_cpl c
  have hends : tHdrMark.toNat = 9000 ∧ tHdrSpace.toNat = 4500 ∧ tStopMark.toNat = 560 := ⟨rfl, rfl, rfl⟩
  change ((necFrameList a c).map BitVec.toNat).sum = 67980
  simp only [necFrameList, List.map_append, List.sum_append, List.map_cons, List.map_nil, List.sum_cons, List.sum_nil]
  omega

variable (a c : Byte)

/-- The long spaces of field k are its one-bits. -/
theorem countP_field_eq_oneBits (k : Fin 4) :
    (List.finRange 8).countP (fun i => dataSpace (necFrame a c) (dataBit k i) == 1690) = oneBits (frameField a c k) := by
  rw [oneBits, ← List.map_coe_finRange_eq_range, List.countP_map]
  refine List.countP_congr fun i _ => ?_
  rw [dataSpace_necFrame, Function.comp_apply]
  cases (frameField a c k).getLsbD i.val <;> decide

/-- The 32 data bits have the ones of two bytes and of their complements. -/
theorem countP_one_necFrame : (List.finRange 32).countP (fun n => dataSpace (necFrame a c) n == 1690) = 16 := by
  have haddr := oneBits_add_oneBits_cpl a
  have hcmd := oneBits_add_oneBits_cpl c
  rw [finRange_eq_dataBits, List.countP_flatMap]
  simp only [Function.comp_def, List.countP_map, countP_field_eq_oneBits]
  change oneBits a + (oneBits (cpl a) + (oneBits c + (oneBits (cpl c) + 0))) = 16
  omega

/-- A data space that is not long is short. -/
theorem countP_zero_necFrame : (List.finRange 32).countP (fun n => dataSpace (necFrame a c) n == 560) = 16 := by
  have htotal := List.length_eq_countP_add_countP (fun n => dataSpace (necFrame a c) n == 1690) (l := List.finRange 32)
  rw [countP_one_necFrame, List.length_finRange] at htotal
  refine .trans (List.countP_congr fun n _ => ?_) (Nat.add_left_cancel htotal).symm
  obtain h | h := dataSpace_necFrame_eq a c n <;> simp [h]

end duration

/-- Settles O33: the two counts of data spaces, and the sum over the six parts of a frame. -/
theorem frameDurationConstant : Obligations.FrameDurationConstant :=
  fun a c => ⟨countP_one_necFrame a c, countP_zero_necFrame a c, sum_necFrame a c⟩

end Sys2Proof.Machine
end

section
/-! PROOFS. The validator (42_complement_validator R120 to R126): what the complement check and the pulse decoder tell,
what the two operations report, and what a change of a frame does to both. -/

namespace Sys2Proof.Machine

section complementCheck
/-! ComplementCheck (R120), and how it sees a changed word. -/

variable {w : Word}

theorem addrOk_eq_true_iff : addrOk w = true ↔ w.extractLsb' 0 8 ^^^ w.extractLsb' 8 8 = 0xFF := beq_iff_eq

theorem cmdOk_eq_true_iff : cmdOk w = true ↔ w.extractLsb' 16 8 ^^^ w.extractLsb' 24 8 = 0xFF := beq_iff_eq

/-- Only the complement differs from a byte in all eight bits (R103). -/
theorem xor_eq_ff_iff {b b' : Byte} : b ^^^ b' = 0xFF ↔ b' = cpl b := by
  rw [← xor_cpl b, BitVec.xor_right_inj]

theorem addrOk_iff_cpl : addrOk w = true ↔ w.extractLsb' 8 8 = cpl (w.extractLsb' 0 8) :=
  addrOk_eq_true_iff.trans xor_eq_ff_iff

theorem cmdOk_iff_cpl : cmdOk w = true ↔ w.extractLsb' 24 8 = cpl (w.extractLsb' 16 8) :=
  cmdOk_eq_true_iff.trans xor_eq_ff_iff

theorem addrOk_frameWordOf (a c : Byte) : addrOk (frameWordOf a c) = true := by
  rw [addrOk_iff_cpl, frameWordOf, extract8_wordOfLanes, extract0_wordOfLanes]

theorem cmdOk_frameWordOf (a c : Byte) : cmdOk (frameWordOf a c) = true := by
  rw [cmdOk_iff_cpl, frameWordOf, extract24_wordOfLanes, extract16_wordOfLanes]

/-- Settles O37: the checks as sums and as complements, and the frame words. -/
theorem complementCheckExact : Obligations.ComplementCheckExact :=
  ⟨fun _ => ⟨addrOk_eq_true_iff, cmdOk_eq_true_iff, addrOk_iff_cpl, cmdOk_iff_cpl⟩,
    fun a c => ⟨addrOk_frameWordOf a c, cmdOk_frameWordOf a c⟩⟩

/-- Flips `e` of a byte and `e'` of its complement go unseen exactly when they are the same. -/
theorem xor_flips_eq_ff_iff {b b' e e' : Byte} (h : b ^^^ b' = 0xFF) :
    (b ^^^ e) ^^^ (b' ^^^ e') = 0xFF ↔ e = e' := by
  have regroup : (b ^^^ e) ^^^ (b' ^^^ e') = 0xFF ^^^ (e ^^^ e') := by
    rw [← h]
    ac_rfl
  calc (b ^^^ e) ^^^ (b' ^^^ e') = 0xFF
      ↔ 0xFF ^^^ (e ^^^ e') = 0xFF ^^^ 0#8 := by rw [regroup, BitVec.xor_zero]
    _ ↔ e ^^^ e' = 0#8 := BitVec.xor_right_inj _
    _ ↔ e = e' := BitVec.xor_eq_zero_iff

/-- After flips `x` of a word that passes, the address check compares the flips of its two bytes (R126). -/
theorem addrOk_xor_iff (h : addrOk w = true) (x : Word) :
    addrOk (w ^^^ x) = true ↔ x.extractLsb' 0 8 = x.extractLsb' 8 8 := by
  rw [addrOk_eq_true_iff, BitVec.extractLsb'_xor, BitVec.extractLsb'_xor, xor_flips_eq_ff_iff (addrOk_eq_true_iff.mp h)]

/-- After flips `x` of a word that passes, the command check compares the flips of its two bytes (R126). -/
theorem cmdOk_xor_iff (h : cmdOk w = true) (x : Word) :
    cmdOk (w ^^^ x) = true ↔ x.extractLsb' 16 8 = x.extractLsb' 24 8 := by
  rw [cmdOk_eq_true_iff, BitVec.extractLsb'_xor, BitVec.extractLsb'_xor, xor_flips_eq_ff_iff (cmdOk_eq_true_iff.mp h)]

/-- One flipped bit lies in one byte, so that just one of the two pairs of bytes is flipped unequally. -/
theorem one_flip_unequal (n : Fin 32) :
    (BitVec.twoPow 32 n.val).extractLsb' 0 8 = (BitVec.twoPow 32 n.val).extractLsb' 8 8 ↔
      (BitVec.twoPow 32 n.val).extractLsb' 16 8 ≠ (BitVec.twoPow 32 n.val).extractLsb' 24 8 := by
  revert n
  decide

/-- The same bit of a byte (field 2h) and of its complement (field 2h + 1), as a set of flips. -/
def matchedFlips (h : Fin 2) (i : Fin 8) : Word :=
  BitVec.twoPow 32 (16 * h.val + i.val) ^^^ BitVec.twoPow 32 (16 * h.val + 8 + i.val)

theorem matchedFlips_equal (h : Fin 2) (i : Fin 8) :
    (matchedFlips h i).extractLsb' 0 8 = (matchedFlips h i).extractLsb' 8 8 ∧
      (matchedFlips h i).extractLsb' 16 8 = (matchedFlips h i).extractLsb' 24 8 := by
  revert h i
  decide

end complementCheck

section report
/-! RXRESULT of a checked word (R122). -/

/-- The flags of RXRESULT, bit by bit (10_state R34). -/
theorem rxFlagsOf_bits (w : Word) :
    (rxFlagsOf w).getLsbD 0 = addrOk w ∧ (rxFlagsOf w).getLsbD 1 = cmdOk w ∧ (rxFlagsOf w).getLsbD 2 = true ∧
      (rxFlagsOf w).getLsbD 3 = (addrOk w && cmdOk w) := by
  unfold rxFlagsOf
  generalize addrOk w = p
  generalize cmdOk w = q
  revert p q
  decide

theorem getLsbD_rxResultOf_flag (w : Word) (i : Fin 8) :
    (rxResultOf w).getLsbD (16 + i.val) = (rxFlagsOf w).getLsbD i.val := by
  rw [rxResultOf, getLsbD_wordOfLanes, if_neg (by omega), if_neg (by omega), if_pos (by omega), Nat.add_sub_cancel_left]

/-- RXRESULT [31:20] of a checked word, as a field (10_state R34). -/
theorem rxResultOf_reservedField (w : Word) : (rxResultOf w).extractLsb' 20 12 = 0 := by
  have hmask : (0xFFF00000 : Word).extractLsb' 20 12 = BitVec.allOnes 12 := by decide
  rw [← BitVec.and_allOnes (x := (rxResultOf w).extractLsb' 20 12), ← hmask, ← BitVec.extractLsb'_and,
    rxResultOf_reserved]
  rfl

theorem reportsWord_rxResultOf (w : Word) : ReportsWord w (rxResultOf w) := by
  obtain ⟨haddr, hcmd, hfmt, hvalid⟩ := rxFlagsOf_bits w
  have bit_addr : (rxResultOf w).getLsbD 16 = addrOk w := (getLsbD_rxResultOf_flag w 0).trans haddr
  have bit_cmd : (rxResultOf w).getLsbD 17 = cmdOk w := (getLsbD_rxResultOf_flag w 1).trans hcmd
  have bit_fmt : (rxResultOf w).getLsbD 18 = true := (getLsbD_rxResultOf_flag w 2).trans hfmt
  have bit_valid : (rxResultOf w).getLsbD 19 = (addrOk w && cmdOk w) := (getLsbD_rxResultOf_flag w 3).trans hvalid
  refine ⟨extract0_wordOfLanes .., extract8_wordOfLanes .., ?_, ?_, bit_fmt, ?_, rxResultOf_reservedField w⟩
  · rw [bit_addr]
    exact addrOk_iff_cpl
  · rw [bit_cmd]
    exact cmdOk_iff_cpl
  · rw [bit_valid, bit_addr, bit_cmd]

/-- Settles O23: the operation is `reportWord` of RXWORD. -/
theorem validateWordReports : Obligations.ValidateWordReports :=
  fun s => ⟨rxResultOf s.rxWord, rfl, reportsWord_rxResultOf s.rxWord⟩

end report

section decode
/-! DecodePulses (R121), and VALIDATE_PULSES by the shape of the buffer (R123). -/

variable {p : Pulses}

theorem dataBitShape_iff {n : Fin 32} :
    dataBitShape p n = true ↔ p[2 + 2 * n.val] = 560 ∧ (p[3 + 2 * n.val] = 560 ∨ p[3 + 2 * n.val] = 1690) := by
  simp only [dataBitShape, Bool.and_eq_true, Bool.or_eq_true, beq_iff_eq]
  rfl

theorem pulsesFmtOk_iff : pulsesFmtOk p = true ↔ HasNecShape p := by
  simp only [pulsesFmtOk, HasNecShape, Bool.and_eq_true, beq_iff_eq, List.all_eq_true, List.mem_finRange, true_imp_iff,
    dataBitShape_iff, and_assoc]
  rfl

theorem decodePulses_of_shape (h : HasNecShape p) : decodePulses p = (true, pulsesWord p) :=
  if_pos (pulsesFmtOk_iff.mpr h)

theorem decodePulses_of_not_shape (h : ¬ HasNecShape p) : decodePulses p = (false, 0) :=
  if_neg fun hfmt => h (pulsesFmtOk_iff.mp hfmt)

/-- Bit n of the word is 1 exactly when the space of data bit n is long. -/
theorem getLsbD_pulsesWord (p : Pulses) (n : Fin 32) : (pulsesWord p).getLsbD n.val = (dataSpace p n == 1690) := by
  rw [pulsesWord, BitVec.getLsbD_ofFnLE, dif_pos n.isLt]
  rfl

theorem spellsWord_pulsesWord (p : Pulses) : SpellsWord p (pulsesWord p) := by
  intro n
  rw [getLsbD_pulsesWord, beq_iff_eq]
  rfl

/-- Settles O38: `pulsesFmtOk` is the shape, and it selects between the spelled word and 0. -/
theorem decodePulsesExact : Obligations.DecodePulsesExact := by
  intro p
  by_cases h : HasNecShape p
  · rw [decodePulses_of_shape h]
    exact ⟨iff_of_true rfl h, fun _ => spellsWord_pulsesWord p, fun hnot => absurd h hnot⟩
  · rw [decodePulses_of_not_shape h]
    exact ⟨iff_of_false Bool.false_ne_true h, fun hshape => absurd hshape h, fun _ => rfl⟩

variable {s : State}

theorem exec_validatePulses_of_shape (h : HasNecShape s.pulse) :
    exec .validatePulses s = .next (reportWord (pulsesWord s.pulse) (setRxWord (pulsesWord s.pulse) s)) := by
  rw [exec, execValidatePulses, decodePulses_of_shape h]

theorem exec_validatePulses_of_not_shape (h : ¬ HasNecShape s.pulse) :
    exec .validatePulses s = .next (setErr .none { s with rxResult := 0x00000000 }) := by
  rw [exec, execValidatePulses, decodePulses_of_not_shape h]

/-- Settles O24: the two outcomes of decoding. -/
theorem validatePulsesReports : Obligations.ValidatePulsesReports :=
  fun s => ⟨fun h => ⟨pulsesWord s.pulse, rxResultOf (pulsesWord s.pulse), exec_validatePulses_of_shape h,
    spellsWord_pulsesWord s.pulse, reportsWord_rxResultOf _⟩, exec_validatePulses_of_not_shape⟩

end decode

section frames
/-! The validator on the encoder's frames (R124, R125). -/

variable (a c : Byte)

theorem hasNecShape_necFrame : HasNecShape (necFrame a c) :=
  ⟨rfl, rfl, rfl, fun n => ⟨dataMark_necFrame a c n, dataSpace_necFrame_eq a c n⟩⟩

/-- The word a frame spells is its frame word: both carry bit i of field k as bit 8k + i (R102). -/
theorem pulsesWord_necFrame : pulsesWord (necFrame a c) = frameWordOf a c := by
  apply BitVec.eq_of_getLsbD_eq
  intro j hj
  obtain ⟨k, i, hn⟩ := exists_dataBit ⟨j, hj⟩
  obtain rfl : j = 8 * k.val + i.val := congrArg Fin.val hn
  rw [getLsbD_frameWordOf, ← val_dataBit, getLsbD_pulsesWord, dataSpace_necFrame]
  cases (frameField a c k).getLsbD i.val <;> rfl

theorem decodePulses_necFrame : decodePulses (necFrame a c) = (true, frameWordOf a c) := by
  rw [decodePulses_of_shape (hasNecShape_necFrame a c), pulsesWord_necFrame]

/-- The report of a frame word: VALID, with the pair's address and command. -/
theorem rxResultOf_frameWordOf :
    (rxResultOf (frameWordOf a c)).getLsbD 19 = true ∧ (rxResultOf (frameWordOf a c)).extractLsb' 0 8 = a ∧
      (rxResultOf (frameWordOf a c)).extractLsb' 8 8 = c := by
  obtain ⟨haddr, hcmd, haddrOk, hcmdOk, -, hvalid, -⟩ := reportsWord_rxResultOf (frameWordOf a c)
  refine ⟨?_, haddr.trans (extract0_wordOfLanes ..), hcmd.trans (extract16_wordOfLanes ..)⟩
  rw [hvalid, haddrOk.mpr (addrOk_iff_cpl.mp (addrOk_frameWordOf a c)),
    hcmdOk.mpr (cmdOk_iff_cpl.mp (cmdOk_frameWordOf a c)), Bool.and_true]

/-- Settles O39: decoding the frame gives its frame word, and that word's report is VALID. -/
theorem validatorRoundTrip : Obligations.ValidatorRoundTrip := by
  intro a c
  refine ⟨decodePulses_necFrame a c, fun s hs => ?_⟩
  have hexec := exec_validatePulses_of_shape (s := s) (hs ▸ hasNecShape_necFrame a c)
  rw [hs, pulsesWord_necFrame] at hexec
  obtain ⟨hvalid, haddr, hcmd⟩ := rxResultOf_frameWordOf a c
  exact ⟨_, hexec, hvalid, haddr, hcmd, frameWordOf_eq_frameRegister a c⟩

/-- Settles O40: the inverted fields are field 1, from space 19, and field 3, from space 51. -/
theorem invertedFieldsSpellComplement : Obligations.InvertedFieldsSpellComplement :=
  fun b x i => ⟨(necFrame_space_eq_one_iff b x 1 i).symm, (necFrame_space_eq_one_iff x b 3 i).symm⟩

end frames

section flips
/-! What a flipped space does (R126): the shape stays, and the word has that bit flipped. -/

/-- The other space value (R126). -/
def flipDuration (d : Duration) : Duration := if d = 560 then 1690 else 560

/-- `p` with the space of data bit n flipped. -/
def flipSpace (p : Pulses) (n : Fin 32) : Pulses := p.set (3 + 2 * n.val) (flipDuration p[3 + 2 * n.val])

variable {p : Pulses} (n : Fin 32)

theorem flipDuration_eq (d : Duration) : flipDuration d = 560 ∨ flipDuration d = 1690 := by
  unfold flipDuration
  split
  · exact .inr rfl
  · exact .inl rfl

/-- On the two space values a flip exchanges long and short. -/
theorem flipDuration_long {d : Duration} (h : d = 560 ∨ d = 1690) : (flipDuration d == 1690) = !(d == 1690) := by
  obtain rfl | rfl := h <;> decide

theorem getElem_flipSpace_of_ne {k : Nat} (hk : k < 67) (h : 3 + 2 * n.val ≠ k) : (flipSpace p n)[k] = p[k] :=
  Vector.getElem_set_ne _ hk h

theorem dataSpace_flipSpace (m : Fin 32) :
    dataSpace (flipSpace p n) m = if n = m then flipDuration (dataSpace p n) else dataSpace p m := by
  split
  case isTrue h => exact h ▸ Vector.getElem_set_self _
  case isFalse h =>
    have hne : n.val ≠ m.val := fun hval => h (Fin.ext hval)
    exact getElem_flipSpace_of_ne n _ (by omega)

/-- A flip leaves the header and every mark, and its space is a space value again. -/
theorem hasNecShape_flipSpace (h : HasNecShape p) : HasNecShape (flipSpace p n) := by
  obtain ⟨hmark, hspace, hstop, hbits⟩ := h
  refine ⟨(getElem_flipSpace_of_ne n _ (by omega)).trans hmark, (getElem_flipSpace_of_ne n _ (by omega)).trans hspace,
    (getElem_flipSpace_of_ne n _ (by omega)).trans hstop, fun m => ⟨?_, ?_⟩⟩
  · exact (getElem_flipSpace_of_ne n _ (by omega)).trans (hbits m).1
  · change dataSpace (flipSpace p n) m = 560 ∨ dataSpace (flipSpace p n) m = 1690
    rw [dataSpace_flipSpace]
    split
    · exact flipDuration_eq _
    · exact (hbits m).2

/-- A flip of a space of NEC shape is a flip of its bit. -/
theorem pulsesWord_flipSpace (h : HasNecShape p) :
    pulsesWord (flipSpace p n) = pulsesWord p ^^^ BitVec.twoPow 32 n.val := by
  obtain ⟨-, -, -, hbits⟩ := h
  apply BitVec.eq_of_getLsbD_eq
  intro j hj
  have hbit (q : Pulses) : (pulsesWord q).getLsbD j = (dataSpace q ⟨j, hj⟩ == 1690) := getLsbD_pulsesWord q ⟨j, hj⟩
  rw [BitVec.getLsbD_xor, BitVec.getLsbD_twoPow, decide_eq_true n.isLt, Bool.true_and, hbit, hbit, dataSpace_flipSpace]
  by_cases hn : n = ⟨j, hj⟩
  · subst hn
    rw [if_pos rfl, flipDuration_long (d := dataSpace p ⟨j, hj⟩) (hbits ⟨j, hj⟩).2, decide_eq_true rfl, Bool.xor_true]
  · rw [if_neg hn, decide_eq_false fun hval => hn (Fin.ext hval), Bool.xor_false]

theorem decodePulses_flipSpace_necFrame (a c : Byte) :
    decodePulses (flipSpace (necFrame a c) n) = (true, frameWordOf a c ^^^ BitVec.twoPow 32 n.val) := by
  have hshape := hasNecShape_necFrame a c
  rw [decodePulses_of_shape (hasNecShape_flipSpace n hshape), pulsesWord_flipSpace n hshape, pulsesWord_necFrame]

theorem decodePulses_flipSpace_flipSpace_necFrame (a c : Byte) (m : Fin 32) :
    decodePulses (flipSpace (flipSpace (necFrame a c) n) m) =
      (true, frameWordOf a c ^^^ (BitVec.twoPow 32 n.val ^^^ BitVec.twoPow 32 m.val)) := by
  have hshape := hasNecShape_necFrame a c
  have hshape' := hasNecShape_flipSpace n hshape
  rw [decodePulses_of_shape (hasNecShape_flipSpace m hshape'), pulsesWord_flipSpace m hshape',
    pulsesWord_flipSpace n hshape, pulsesWord_necFrame, BitVec.xor_assoc]

/-- A single flip fails one of the two checks. -/
theorem one_check_fails (a c : Byte) :
    addrOk (frameWordOf a c ^^^ BitVec.twoPow 32 n.val) ≠ cmdOk (frameWordOf a c ^^^ BitVec.twoPow 32 n.val) := by
  rw [ne_eq, Bool.eq_iff_iff, addrOk_xor_iff (addrOk_frameWordOf a c), cmdOk_xor_iff (cmdOk_frameWordOf a c),
    one_flip_unequal]
  exact not_iff_self

/-- Flipping two spaces of `p` at once is flipping one and then the other. -/
theorem set_set_eq_flipSpace (p : Pulses) {n m : Fin 32} (hne : n ≠ m) {j k : Nat} (hj : j < 67) (hk : k < 67)
    (hn : j = 3 + 2 * n.val) (hm : k = 3 + 2 * m.val) :
    (p.set j (flipDuration p[j])).set k (flipDuration p[k]) = flipSpace (flipSpace p n) m := by
  subst hn hm
  have hval : n.val ≠ m.val := fun h => hne (Fin.ext h)
  rw [flipSpace, getElem_flipSpace_of_ne n hk (by omega)]
  rfl

/-- Flipping the same bit of a byte field and of its complement field, at their indices in the frame. -/
theorem decodePulses_matched_flips (a c : Byte) (h : Fin 2) (i : Fin 8) :
    decodePulses
      (((necFrame a c).set (3 + 32 * h.val + 2 * i.val) (flipDuration (necFrame a c)[3 + 32 * h.val + 2 * i.val])).set
        (19 + 32 * h.val + 2 * i.val) (flipDuration (necFrame a c)[19 + 32 * h.val + 2 * i.val])) =
      (true, frameWordOf a c ^^^ matchedFlips h i) := by
  have hne : (⟨16 * h.val + i.val, by omega⟩ : Fin 32) ≠ ⟨16 * h.val + 8 + i.val, by omega⟩ :=
    fun heq => by simpa using congrArg Fin.val heq
  rw [set_set_eq_flipSpace _ hne _ _ (by simp only; omega) (by simp only; omega),
    decodePulses_flipSpace_flipSpace_necFrame]
  rfl

end flips

section wrongDurations
/-! What any other wrong duration does (R126): the shape is lost. -/

variable {p q : Pulses} {k : Nat}

/-- The shape fixes the header and every mark. -/
theorem getElem_eq_of_shape (hp : HasNecShape p) (hq : HasNecShape q) (hk : k < 67) (hfixed : k % 2 = 0 ∨ k = 1) :
    p[k] = q[k] := by
  obtain ⟨hp0, hp1, hp66, hpbits⟩ := hp
  obtain ⟨hq0, hq1, hq66, hqbits⟩ := hq
  obtain rfl | rfl | rfl | hmark : k = 0 ∨ k = 1 ∨ k = 66 ∨ (k % 2 = 0 ∧ 2 ≤ k ∧ k < 66) := by omega
  · exact hp0.trans hq0.symm
  · exact hp1.trans hq1.symm
  · exact hp66.trans hq66.symm
  · obtain ⟨n, rfl⟩ : ∃ n : Fin 32, k = 2 + 2 * n.val := ⟨⟨k / 2 - 1, by omega⟩, by simp only; omega⟩
    exact (hpbits n).1.trans (hqbits n).1.symm

/-- Any other duration is wrong in the header and in a mark, and one that is no space value is wrong everywhere. -/
theorem not_hasNecShape_set {d : Duration} (hp : HasNecShape p) (hk : k < 67) (hd : d ≠ p[k])
    (hwrong : k % 2 = 0 ∨ k = 1 ∨ (d ≠ 560 ∧ d ≠ 1690)) : ¬ HasNecShape (p.set k d) := by
  intro hset
  have hentry : (p.set k d)[k] = d := Vector.getElem_set_self hk
  by_cases hfixed : k % 2 = 0 ∨ k = 1
  · exact hd (hentry.symm.trans (getElem_eq_of_shape hset hp hk hfixed))
  · obtain ⟨hshort, hlong⟩ : d ≠ 560 ∧ d ≠ 1690 := (or_assoc.mpr hwrong).resolve_left hfixed
    obtain ⟨n, rfl⟩ : ∃ n : Fin 32, k = 3 + 2 * n.val := ⟨⟨k / 2 - 1, by omega⟩, by simp only; omega⟩
    obtain ⟨-, -, -, hbits⟩ := hset
    obtain hspace | hspace := (hbits n).2
    · exact hshort (hentry.symm.trans hspace)
    · exact hlong (hentry.symm.trans hspace)

end wrongDurations

/-- Settles O41: flips act on the frame word as an exclusive or, and any other change of an entry loses the shape. -/
theorem validatorDetection : Obligations.ValidatorDetection := by
  intro a c
  refine ⟨fun n => ?oneFlip, fun h i => ?matchedFlips, fun k d hd hwrong => ?wrongDuration⟩
  case oneFlip =>
    intro p
    have hdecode : decodePulses p = (true, frameWordOf a c ^^^ BitVec.twoPow 32 n.val) :=
      decodePulses_flipSpace_necFrame n a c
    rw [hdecode]
    exact ⟨rfl, one_check_fails n a c⟩
  case matchedFlips =>
    intro p
    have hdecode : decodePulses p = (true, frameWordOf a c ^^^ matchedFlips h i) := decodePulses_matched_flips a c h i
    obtain ⟨haddr, hcmd⟩ := matchedFlips_equal h i
    rw [hdecode]
    exact ⟨rfl, (addrOk_xor_iff (addrOk_frameWordOf a c) _).mpr haddr,
      (cmdOk_xor_iff (cmdOk_frameWordOf a c) _).mpr hcmd⟩
  case wrongDuration =>
    rw [decodePulses_of_not_shape (not_hasNecShape_set (hasNecShape_necFrame a c) k.isLt hd hwrong)]

end Sys2Proof.Machine
end

section
/-! PROOFS. One answer of the transmitter, by what it answers (43_transmit R140, R144 to R147), and the turns that answer
nothing (R151). -/

namespace Sys2Proof.Machine

variable {s : State}

section pendAfter
/-! PEND under Record (R147). -/

/-- Record writes PEND alone, with what the rule says. -/
theorem recordResponse_eq_setPend (r : Response) (k : BitVec 2) (s : State) :
    recordResponse r k s = setPend (s.pendAfter r k) s := by
  cases r with
  | ok => rfl
  | err e => exact (apply_ite (setPend · s) _ _ _).symm

/-- An error already recorded is kept. -/
theorem pendAfter_of_some {p : Pend} (h : s.pend = some p) (r : Response) (k : BitVec 2) : s.pendAfter r k = some p := by
  cases r with
  | ok => exact h
  | err e => exact (if_neg (by simp [h])).trans h

/-- The first error of an undrained transmission is recorded. -/
theorem pendAfter_err_of_none (hdrain : s.drain = false) (h : s.pend = none) (e : HardwareError) (k : BitVec 2) :
    s.pendAfter (.err e) k = some ⟨Config.hwErrEncoding e, k⟩ :=
  if_pos ⟨hdrain, h⟩

end pendAfter

section answers
/-! The three reactions of the sequencer, as updates of the state. -/

/-- An answer with the next call behind it: both join the log, and nothing else of the state changes. -/
theorem issue_logAnswer (c : Call) (r : Response) (s : State) :
    issue c (logAnswer r s) = { s with callLog := s.callLog ++ [.answer r, .call c] } :=
  congrArg (fun log => { s with callLog := log }) (List.append_assoc ..)

/-- An Ok to carrier-on with DRAIN = 0 hands over the buffer (R144). -/
theorem consumeAnswer_sends (htx : s.txState = .waitCarrierOn) (hdrain : s.drain = false) :
    consumeAnswer .ok s =
      { s with txState := .waitSend, callLog := s.callLog ++ [.answer .ok, .call (.sendPulses s.pulse)] } := by
  rw [consumeAnswer, htx]
  exact (if_pos ⟨rfl, hdrain⟩).trans (issue_logAnswer _ _ { s with txState := .waitSend })

/-- Recording an answer and requesting carrier-off (R144, R145). -/
theorem requestCarrierOff_recordResponse (r : Response) (k : BitVec 2) (s : State) :
    requestCarrierOff (recordResponse r k (logAnswer r s)) =
      { s with
        pend := s.pendAfter r k
        txState := .waitCarrierOff
        callLog := s.callLog ++ [.answer r, .call (.setCarrier 0 0)] } := by
  rw [recordResponse_eq_setPend]
  exact issue_logAnswer _ _ { s with pend := s.pendAfter r k, txState := .waitCarrierOff }

/-- Any other answer to carrier-on goes straight to carrier-off (R144). -/
theorem consumeAnswer_skipsSend {r : Response} (htx : s.txState = .waitCarrierOn) (h : r ≠ .ok ∨ s.drain = true) :
    consumeAnswer r s =
      { s with
        pend := s.pendAfter r 1
        txState := .waitCarrierOff
        callLog := s.callLog ++ [.answer r, .call (.setCarrier 0 0)] } := by
  have hskip : ¬ (r = .ok ∧ s.drain = false) := by
    rintro ⟨hok, hdrain⟩
    simp [hok, hdrain] at h
  rw [consumeAnswer, htx]
  exact (if_neg hskip).trans (requestCarrierOff_recordResponse r 1 s)

/-- Every answer to the pulse train goes to carrier-off (R145). -/
theorem consumeAnswer_sent (htx : s.txState = .waitSend) (r : Response) :
    consumeAnswer r s =
      { s with
        pend := s.pendAfter r 2
        txState := .waitCarrierOff
        callLog := s.callLog ++ [.answer r, .call (.setCarrier 0 0)] } := by
  rw [consumeAnswer, htx]
  exact requestCarrierOff_recordResponse r 2 s

/-- The answer to carrier-off is noted in CARRIER_ON and PEND (R146). -/
theorem noteCarrierOff_eq (r : Response) (s : State) :
    noteCarrierOff r s =
      { s with carrierOn := if r = .ok then false else s.carrierOn, pend := s.pendAfter r 3 } := by
  cases r with
  | ok => rfl
  | err e => exact recordResponse_eq_setPend (.err e) 3 s

/-- The outcome is written to ERR and HWERR alone: neither with DRAIN = 1, and otherwise by what PEND holds (R146). -/
theorem reportOutcome_eq (s : State) :
    ∃ e h, reportOutcome s = { s with err := e, hwErr := h } ∧
      (s.drain = true → e = s.err ∧ h = s.hwErr) ∧
      (s.drain = false → s.pend = none → e = ErrCode.none.code ∧ h = s.hwErr) ∧
      (∀ p, s.drain = false → s.pend = some p → e = ErrCode.hardware.code ∧ h = hwErrOf p) := by
  by_cases hdrain : s.drain = true
  · exact ⟨s.err, s.hwErr, if_pos hdrain, by simp [hdrain]⟩
  obtain hpend | ⟨p, hpend⟩ := Option.eq_none_or_eq_some s.pend
  · have hout : reportOutcome s = setErr .none s := by rw [reportOutcome, if_neg hdrain, hpend]
    exact ⟨ErrCode.none.code, s.hwErr, hout, by simp [hdrain, hpend]⟩
  · have hout : reportOutcome s = reportHardware p s := by rw [reportOutcome, if_neg hdrain, hpend]
    exact ⟨ErrCode.hardware.code, hwErrOf p, hout, by simp [hdrain, hpend]⟩

/-- HWERR of a recorded error, as a number (10_state R35). -/
theorem toNat_hwErrOf (p : Pend) : (hwErrOf p).toNat = 0x100 * p.step.toNat + p.code.toNat := by
  have hstep : (p.step.zeroExtend 8).toNat = p.step.toNat :=
    BitVec.toNat_setWidth_of_le (by decide)
  have hzero : (0 : Byte).toNat = 0 := rfl
  rw [hwErrOf, toNat_wordOfLanes, hstep, hzero]
  omega

/-- The transmitter's turn answers the outstanding call (R140). -/
theorem step_of_answersNext {r : Response} {as : List Response} {sch : List Turn} (hnext : s.answersNext r as sch)
    (hbusy : s.txState ≠ .idle) : step s = .next (consumeAnswer r (setAnswers as (setSchedule sch s))) := by
  obtain ⟨hturn, hanswer⟩ := hnext
  have hbusy' : (setSchedule sch s).busy = true := busy_eq_true.mpr hbusy
  simp only [step, hturn, takeTurn, transmitterTurn, hbusy', if_true, setSchedule_answers, hanswer]

end answers

/-- Settles O25: Start() or the rejection, by FRAME_READY. -/
theorem transmitStartsOrRejects : Obligations.TransmitStartsOrRejects := by
  intro s
  refine ⟨fun hready => ?_, fun hnot => ?_⟩
  · exact if_pos hready
  · exact if_neg (by simp [hnot])

/-- Settles O42: the answer's turn, then the two reactions to it. -/
theorem carrierOnAnswered : Obligations.CarrierOnAnswered := by
  intro s r as sch htx hnext
  rw [step_of_answersNext hnext (by simp [htx])]
  refine ⟨?_, fun h => ?_⟩
  · rintro rfl hdrain
    exact congrArg Host.Outcome.next (consumeAnswer_sends (s := setAnswers as (setSchedule sch s)) htx hdrain)
  · exact congrArg Host.Outcome.next (consumeAnswer_skipsSend (s := setAnswers as (setSchedule sch s)) htx h)

/-- Settles O43: the answer's turn, then the one reaction to it. -/
theorem sendAnswered : Obligations.SendAnswered := by
  intro s r as sch htx hnext
  rw [step_of_answersNext hnext (by simp [htx])]
  exact congrArg Host.Outcome.next (consumeAnswer_sent (s := setAnswers as (setSchedule sch s)) htx r)

/-- Settles O44: the last answer is noted, the outcome reported, and the transmission ended. -/
theorem carrierOffAnswered : Obligations.CarrierOffAnswered := by
  intro s r as sch htx hnext
  have hreact : consumeAnswer r (setAnswers as (setSchedule sch s)) =
      endTransmit (reportOutcome (noteCarrierOff r (logAnswer r (setAnswers as (setSchedule sch s))))) := by
    rw [consumeAnswer, setAnswers_txState, setSchedule_txState, htx]
    rfl
  obtain ⟨e, hw, heq, hdrained, hnone, hsome⟩ :=
    reportOutcome_eq (noteCarrierOff r (logAnswer r (setAnswers as (setSchedule sch s))))
  rw [noteCarrierOff_eq] at hdrained hnone hsome
  rw [heq, noteCarrierOff_eq] at hreact
  refine ⟨_, (step_of_answersNext hnext (by simp [htx])).trans (congrArg Host.Outcome.next hreact), rfl, rfl, hdrained,
    hnone, fun p hdrain hpend => ?_⟩
  obtain ⟨herr, rfl⟩ := hsome p hdrain hpend
  exact ⟨herr, toNat_hwErrOf p⟩

/-- With no answer to give, or no call to answer, the transmitter's turn is no step (R140, R151). -/
theorem transmitterTurn_of_silent (h : s.answers = [] ∨ s.txState = .idle) : transmitterTurn s = s := by
  obtain hsame | ⟨r, as, hanswer, hbusy, -⟩ := transmitterTurn_cases s
  · exact hsame
  · obtain hnone | hidle := h
    · simp [hnone] at hanswer
    · exact absurd hidle (busy_eq_true.mp hbusy)

/-- Settles O45, by induction on the number of turns: each leaves all but the turn itself. -/
theorem transmitterMayStaySilent : Obligations.TransmitterMayStaySilent := by
  intro n
  induction n with
  | zero =>
    rintro s sch - hsch
    obtain rfl : s.schedule = sch := hsch
    rfl
  | succ n ih =>
    intro s sch hsilent hsch
    have hturn : s.schedule = .transmitter :: (List.replicate n .transmitter ++ sch) := hsch
    have hsame : transmitterTurn (setSchedule (List.replicate n .transmitter ++ sch) s) = setSchedule _ s :=
      transmitterTurn_of_silent hsilent
    have hstep : step s = .next (setSchedule (List.replicate n .transmitter ++ sch) s) := by
      rw [step, hturn]
      exact congrArg Host.Outcome.next hsame
    rw [run_succ_of_next hstep]
    exact ih (setSchedule _ s) sch hsilent rfl

end Sys2Proof.Machine
end

section
/-! PROOFS. The call log as a whole (43_transmit R148, R149): it stays legal, and it owes a carrier-off exactly from a
carrier-on to the next one. -/

namespace Sys2Proof.Machine

/-- The carrier-off calls a log still owes in a phase (R148). -/
def carrierOffsOwed : CallPhase → Nat
  | .quiet => 0
  | .carrierOnOut => 1
  | .carrierOnOk => 1
  | .carrierOnFailed => 1
  | .sendOut => 1
  | .sendAnswered => 1
  | .carrierOffOut => 0

/-- A log is owed a carrier-off exactly while carrier-on or the pulse train is outstanding. -/
theorem carrierOffsOwed_phaseOf (x : TxState) :
    carrierOffsOwed (phaseOf x) = if x = .waitCarrierOn ∨ x = .waitSend then 1 else 0 := by
  cases x <;> rfl

theorem callCount_cons (e : LogEntry) (log : List LogEntry) (c : Call) :
    callCount (e :: log) c = callCount [e] c + callCount log c :=
  List.countP_append (l₁ := [e])

/-- An allowed entry incurs what it owes: a carrier-on adds one, a carrier-off takes one away, any other entry neither. -/
theorem callPhaseNext_owes {p p' : CallPhase} {e : LogEntry} (h : callPhaseNext p e = some p') :
    callCount [e] carrierOnCall + carrierOffsOwed p = callCount [e] carrierOffCall + carrierOffsOwed p' := by
  unfold callPhaseNext at h
  split at h <;> cases h <;> rfl

/-- A log that goes on legally from one phase to another balances what is owed at its ends. -/
theorem foldlM_callPhaseNext_owes {log : List LogEntry} {p p' : CallPhase}
    (h : log.foldlM callPhaseNext p = some p') :
    callCount log carrierOnCall + carrierOffsOwed p = callCount log carrierOffCall + carrierOffsOwed p' := by
  induction log generalizing p with
  | nil =>
    cases h
    rfl
  | cons e log ih =>
    rw [List.foldlM_cons] at h
    obtain ⟨q, hentry, hrest⟩ := Option.bind_eq_some_iff.mp h
    have hfirst := callPhaseNext_owes hentry
    have htail := ih hrest
    rw [callCount_cons e log carrierOnCall, callCount_cons e log carrierOffCall]
    omega

/-- Settles O51: `step_keeps_callLogLegal`, by the five effects of a step. -/
theorem callLogStaysLegal : Obligations.CallLogStaysLegal := fun _ _ => step_keeps_callLogLegal

/-- Settles O54: the balance of a whole log, which starts quiet and owes nothing then. -/
theorem carrierOffAlwaysFollows : Obligations.CarrierOffAlwaysFollows := by
  intro s hlegal
  have hbalance := foldlM_callPhaseNext_owes hlegal
  rwa [carrierOffsOwed_phaseOf] at hbalance

end Sys2Proof.Machine
end

section
/-! PROOFS. A whole TRANSMIT (43_transmit R149): PEND holds the first failing call, host turns before an answer change the
host's own fields only, and each answer is then the step of R144 to R146. -/

namespace Sys2Proof.Machine

variable {s : State}

section firstFailure
/-! The first failing call, and PEND as its record (R147). -/

theorem firstFailure_append_ok (k : Nat) (rs : List Response) : firstFailure k (rs ++ [.ok]) = firstFailure k rs := by
  induction rs generalizing k with
  | nil => rfl
  | cons r rs ih =>
    cases r with
    | ok => exact ih (k + 1)
    | err e => rfl

theorem firstFailure_append_err (k : Nat) (rs : List Response) (e : HardwareError) :
    firstFailure k (rs ++ [.err e]) = (firstFailure k rs).or (some (e, k + rs.length)) := by
  induction rs generalizing k with
  | nil => rfl
  | cons r rs ih =>
    cases r with
    | ok =>
      have hlength : k + (rs.length + 1) = k + 1 + rs.length := by omega
      rw [List.length_cons, hlength]
      exact ih (k + 1)
    | err e' => rfl

/-- PEND `p` is the record of the first failing call `first`: both are absent, or they agree. -/
inductive Records : Option Pend → Option (HardwareError × Nat) → Prop
  | nothing : Records none none
  | failure (e : HardwareError) (k : BitVec 2) : Records (some ⟨Config.hwErrEncoding e, k⟩) (some (e, k.toNat))

/-- Record keeps PEND the record of the first failing call, as the answers come in (R147). -/
theorem records_pendAfter {rs : List Response} {r : Response} {k : BitVec 2} (hdrain : s.drain = false)
    (hk : k.toNat = 1 + rs.length) (h : Records s.pend (firstFailure 1 rs)) :
    Records (s.pendAfter r k) (firstFailure 1 (rs ++ [r])) := by
  cases r with
  | ok => rwa [firstFailure_append_ok]
  | err e =>
    rw [firstFailure_append_err, ← hk]
    generalize hpend : s.pend = p at h
    generalize firstFailure 1 rs = first at h
    cases h with
    | nothing =>
      rw [pendAfter_err_of_none hdrain hpend]
      exact .failure e k
    | failure e' k' =>
      rw [pendAfter_of_some hpend]
      exact .failure e' k'

/-- Once recorded, the first failing call stays on record. -/
theorem records_pendAfter_of_failure {e : HardwareError} {n : Nat} (h : Records s.pend (some (e, n))) (r : Response)
    (k : BitVec 2) : Records (s.pendAfter r k) (some (e, n)) := by
  generalize hpend : s.pend = p at h
  cases h with
  | failure e k' =>
    rw [pendAfter_of_some hpend]
    exact .failure e k'

end firstFailure

section hostTurns
/-! Host turns while BUSY = 1. -/

theorem hostInWindow_of_subset {t : State} (h : s.hostInWindow) (hsub : t.host ⊆ s.host) : t.hostInWindow :=
  fun l hl => h l (hsub hl)

/-- While BUSY = 1 an access that is not held only joins the record: it is a read or gets the bus error. -/
theorem performAccess_of_busy {a : Access} (hbusy : s.busy = true) (hfree : s.holds a = false) :
    ∃ r, performAccess a s = .next (recordBus a r s) := by
  cases a with
  | read off wd => exact performAccess_read off wd s
  | write off wd v =>
    have hnone : admitted off wd = none := by simpa [State.holds, hbusy] using hfree
    exact ⟨.busError, by rw [performAccess, hnone]⟩

/-- While BUSY = 1 a turn of a host that stays in the window completes, and takes lines of its list at most. -/
theorem hostTurn_of_busy (hbusy : s.busy = true) (hwindow : s.hostInWindow) :
    ∃ l b, l ⊆ s.host ∧ hostTurn s = .next { s with host := l, busLog := b } := by
  unfold hostTurn
  split
  next => exact ⟨s.host, s.busLog, List.Subset.refl _, rfl⟩
  next a rest hline =>
    have hinside : ¬ windowSize ≤ accessOffset a := Nat.not_le.mpr (hwindow (.access a) (by simp [hline]))
    rw [if_neg hinside]
    cases hfree : s.holds a with
    | true => exact ⟨s.host, s.busLog, List.Subset.refl _, rfl⟩
    | false =>
      obtain ⟨r, hr⟩ := performAccess_of_busy (s := setHost rest s) hbusy hfree
      exact ⟨rest, _, by simp [hline], hr⟩
  next rest hline => exact ⟨s.host, _, List.Subset.refl _, by rw [if_pos hbusy]; rfl⟩
  next k rest hline =>
    refine ⟨if s.err = ErrCode.none.code then rest else rest.drop k, _, ?_, rfl⟩
    rw [hline]
    split
    · exact List.subset_cons_self _ _
    · exact List.subset_cons_of_subset _ (List.drop_subset _ _)

/-- Any number of such turns leaves the block, and the answers to come, as they are. -/
theorem run_hostTurns (m : Nat) {s : State} {sch : List Turn} (hbusy : s.busy = true) (hwindow : s.hostInWindow)
    (hturns : s.schedule = List.replicate m .host ++ sch) :
    ∃ l b, l ⊆ s.host ∧ ∀ k, Host.Core.run Sys2Proof.core (m + k) s =
      Host.Core.run Sys2Proof.core k (s.withAgents ⟨l, s.answers, sch, b⟩) := by
  induction m generalizing s with
  | zero =>
    obtain rfl : s.schedule = sch := hturns
    exact ⟨s.host, s.busLog, List.Subset.refl _, fun k => by rw [Nat.zero_add]; rfl⟩
  | succ m ih =>
    obtain ⟨l, b, hsub, hturn⟩ :=
      hostTurn_of_busy (s := setSchedule (List.replicate m .host ++ sch) s) hbusy hwindow
    have hturns' : s.schedule = .host :: (List.replicate m .host ++ sch) := hturns
    have hstep : step s = .next (s.withAgents ⟨l, s.answers, List.replicate m .host ++ sch, b⟩) := by
      rw [step, hturns']
      exact hturn
    obtain ⟨l', b', hsub', hrun⟩ := ih (s := s.withAgents ⟨l, s.answers, List.replicate m .host ++ sch, b⟩) hbusy
      (hostInWindow_of_subset hwindow hsub) rfl
    refine ⟨l', b', List.Subset.trans hsub' hsub, fun k => ?_⟩
    rw [Nat.add_right_comm, run_succ_of_next hstep, hrun]
    rfl

end hostTurns

section underway
/-! The states a TRANSMIT goes through: its start, and the step of each answer. -/

/-- `s` while the TRANSMIT accepted in it runs, undrained: at sequencer state `x`, with PEND `p`, after the log entries `es`,
beside the agents `g`. -/
def State.underway (s : State) (x : TxState) (p : Option Pend) (es : List LogEntry) (g : Agents) : State :=
  { s.withAgents g with
    cmd := 0x08000000
    err := 0x0
    hwErr := 0
    carrierOn := true
    txState := x
    pend := p
    callLog := s.callLog ++ es }

/-- `t` is `s` after a TRANSMIT whose calls and answers are `es`, the last answer being `r` and the first failing call
`first`: what a row of R149's table says. -/
def State.Transmitted (s : State) (as : List Response) (sch : List Turn) (es : List LogEntry) (r : Response)
    (first : Option (HardwareError × Nat)) (t : State) : Prop :=
  t = { s with
    schedule := sch
    host := t.host
    busLog := t.busLog
    cmd := 0x08000000
    answers := as
    carrierOn := t.carrierOn
    err := t.err
    hwErr := t.hwErr
    pend := none
    callLog := s.callLog ++ es } ∧
  (t.carrierOn = true ↔ r ≠ .ok) ∧ t.reports first

variable {l : List HostLine} {as : List Response} {sch : List Turn} {b : List BusRecord} {x : TxState} {p : Option Pend}
  {es : List LogEntry}

/-- The write of TRANSMIT's word to an idle block with a frame ready starts the transmission (R143). -/
theorem step_starts (hidle : s.txState = .idle) (hready : s.frameReady = true)
    (hissue : s.issues (.write 0x000 .word 0x08000000) l sch) :
    ∃ b, step s = .next (s.underway .waitCarrierOn none [.call (.setCarrier 38000 500)] ⟨l, s.answers, sch, b⟩) := by
  refine ⟨s.busLog ++ [⟨.write 0x000 .word 0x08000000, .done⟩], ?_⟩
  rw [step_of_issues_cmd hissue (busy_eq_false.mpr hidle), acceptCommand_of_decode (i := .transmit) (by decide)]
  exact (transmitStartsOrRejects _).1 hready

/-- An answer consumed and the next call behind it: the transmission goes on, at another sequencer state. -/
theorem underway_goesOn (s : State) (x y : TxState) (p p' : Option Pend) (es es' : List LogEntry) (g : Agents) :
    { s.underway x p es g with
      schedule := sch
      answers := as
      pend := p'
      txState := y
      callLog := (s.underway x p es g).callLog ++ es' } = s.underway y p' (es ++ es') ⟨g.host, as, sch, g.busLog⟩ :=
  congrArg (fun log => { s.underway y p' es ⟨g.host, as, sch, g.busLog⟩ with callLog := log })
    (List.append_assoc s.callLog es es')

/-- An Ok to step 1 goes on to step 2 (R144). -/
theorem step_sends (hdrain : s.drain = false) :
    step (s.underway .waitCarrierOn p es ⟨l, .ok :: as, .transmitter :: sch, b⟩) =
      .next (s.underway .waitSend p (es ++ [.answer .ok, .call (.sendPulses s.pulse)]) ⟨l, as, sch, b⟩) := by
  obtain ⟨hsends, -⟩ := carrierOnAnswered (s.underway .waitCarrierOn p es ⟨l, .ok :: as, .transmitter :: sch, b⟩)
    .ok as sch rfl ⟨rfl, rfl⟩
  exact (hsends rfl hdrain).trans (congrArg Host.Outcome.next (underway_goesOn ..))

/-- An error at step 1 goes on to step 3, on record (R144). -/
theorem step_skipsSend (hdrain : s.drain = false) (e : HardwareError) :
    step (s.underway .waitCarrierOn none es ⟨l, .err e :: as, .transmitter :: sch, b⟩) =
      .next (s.underway .waitCarrierOff (some ⟨Config.hwErrEncoding e, 1⟩)
        (es ++ [.answer (.err e), .call (.setCarrier 0 0)]) ⟨l, as, sch, b⟩) := by
  obtain ⟨-, hskips⟩ := carrierOnAnswered (s.underway .waitCarrierOn none es ⟨l, .err e :: as, .transmitter :: sch, b⟩)
    (.err e) as sch rfl ⟨rfl, rfl⟩
  have hpend := pendAfter_err_of_none (s := { s with pend := none }) hdrain rfl e 1
  rw [← hpend]
  exact (hskips (.inl (by simp))).trans (congrArg Host.Outcome.next (underway_goesOn ..))

/-- Every answer at step 2 goes on to step 3, with the first failing call on record (R145). -/
theorem step_sent (hdrain : s.drain = false) (hp : Records p (firstFailure 1 [.ok])) (r : Response) :
    ∃ p', Records p' (firstFailure 1 [.ok, r]) ∧
      step (s.underway .waitSend p es ⟨l, r :: as, .transmitter :: sch, b⟩) =
        .next (s.underway .waitCarrierOff p' (es ++ [.answer r, .call (.setCarrier 0 0)]) ⟨l, as, sch, b⟩) := by
  have hsent := sendAnswered (s.underway .waitSend p es ⟨l, r :: as, .transmitter :: sch, b⟩) r as sch rfl ⟨rfl, rfl⟩
  exact ⟨State.pendAfter { s with pend := p } r 2, records_pendAfter (rs := [.ok]) hdrain rfl hp,
    hsent.trans (congrArg Host.Outcome.next (underway_goesOn ..))⟩

/-- The answer at step 3 ends the transmission and reports the failing call that is then on record (R146). -/
theorem step_ends {r : Response} {first : Option (HardwareError × Nat)} (hidle : s.txState = .idle)
    (hdrain : s.drain = false) (hrecords : Records (State.pendAfter { s with pend := p } r 3) first) :
    ∃ t, step (s.underway .waitCarrierOff p es ⟨l, r :: as, .transmitter :: sch, b⟩) = .next t ∧
      s.Transmitted as sch (es ++ [.answer r]) r first t := by
  obtain ⟨t, hstep, ht, hcarrier, -, hnone, hsome⟩ :=
    carrierOffAnswered (s.underway .waitCarrierOff p es ⟨l, r :: as, .transmitter :: sch, b⟩) r as sch rfl ⟨rfl, rfl⟩
  have hcarrier' : t.carrierOn = if r = .ok then false else true := hcarrier
  refine ⟨t, hstep, ?_, by simp [hcarrier'], ?_⟩
  · have hlines : t.host = l := congrArg State.host ht
    have hrecord : t.busLog = b := congrArg State.busLog ht
    rw [← List.append_assoc, hidle, hdrain, hlines, hrecord]
    exact ht
  · generalize hpend : State.pendAfter { s with pend := p } r 3 = q at hrecords
    cases hrecords with
    | nothing => exact hnone hdrain hpend
    | failure e k => exact hsome _ hdrain hpend

/-- `k` steps from `u` complete, in a state with `P`. -/
def RunsTo (k : Nat) (u : State) (P : State → Prop) : Prop :=
  ∃ t, Host.Core.run Sys2Proof.core k u = .next t ∧ P t

/-- A run of `m` host turns and one answer goes on from where the answer's step comes to: the host turns have changed no more
than the host's lines, which stay in the window, and the bus record. -/
theorem runsTo_of_answer {m k : Nat} {P : State → Prop} (hwindow : s.hostInWindow) (hl : l ⊆ s.host) (hx : x ≠ .idle)
    (h : ∀ l' b', l' ⊆ s.host →
      ∃ u, step (s.underway x p es ⟨l', as, .transmitter :: sch, b'⟩) = .next u ∧ RunsTo k u P) :
    RunsTo (m + 1 + k) (s.underway x p es ⟨l, as, hostTurnsThenAnswer m sch, b⟩) P := by
  obtain ⟨l', b', hsub, hrun⟩ := run_hostTurns m (s := s.underway x p es ⟨l, as, hostTurnsThenAnswer m sch, b⟩)
    (busy_eq_true.mpr hx) (hostInWindow_of_subset hwindow hl) rfl
  obtain ⟨u, hstep, t, ht, hP⟩ := h l' b' (List.Subset.trans hsub hl)
  refine ⟨t, ?_, hP⟩
  have hcount : m + 1 + k = m + (k + 1) := by omega
  rw [hcount, hrun]
  exact (run_succ_of_next hstep k).trans ht

end underway

/-- Settles O46: an Ok to step 1 is followed by the answers to steps 2 and 3, an error by the one to step 3. PEND is the record
of the first failing call all along. -/
theorem transmitOutcomeTable : Obligations.TransmitOutcomeTable := by
  intro s r1 r2 r3 q as sch m1 m2 m3 hidle hdrain hready hhost hwindow
  have hq : q ⊆ s.host := by simp [hhost]
  refine ⟨?okRow, ?errorRow⟩
  case okRow =>
    rintro rfl hanswers hturns
    change RunsTo (m1 + m2 + m3 + 4) s (s.Transmitted as sch _ r3 (firstFailure 1 [.ok, r2, r3]))
    obtain ⟨b, hstart⟩ := step_starts hidle hready ⟨hturns, hhost⟩
    have hcount : m1 + m2 + m3 + 4 = m1 + 1 + (m2 + 1 + (m3 + 1 + 0)) + 1 := by omega
    rw [hcount, RunsTo, run_succ_of_next hstart, hanswers]
    refine runsTo_of_answer hwindow hq (by decide) fun l1 b1 hl1 => ⟨_, step_sends hdrain, ?_⟩
    refine runsTo_of_answer hwindow hl1 (by decide) fun l2 b2 hl2 => ?_
    obtain ⟨p, hp, hsent⟩ := step_sent hdrain .nothing r2
    refine ⟨_, hsent, runsTo_of_answer hwindow hl2 (by decide) fun l3 b3 _ => ?_⟩
    have hlast : Records (State.pendAfter { s with pend := p } r3 3) (firstFailure 1 [.ok, r2, r3]) :=
      records_pendAfter (rs := [.ok, r2]) hdrain rfl hp
    obtain ⟨t, hend, ht⟩ := step_ends hidle hdrain hlast
    exact ⟨t, hend, t, rfl, ht⟩
  case errorRow =>
    intro hr1 hanswers hturns
    cases r1 with
    | ok => exact absurd rfl hr1
    | err e =>
      change RunsTo (m1 + m2 + 3) s (s.Transmitted as sch _ r2 (some (e, 1)))
      obtain ⟨b, hstart⟩ := step_starts hidle hready ⟨hturns, hhost⟩
      have hcount : m1 + m2 + 3 = m1 + 1 + (m2 + 1 + 0) + 1 := by omega
      rw [hcount, RunsTo, run_succ_of_next hstart, hanswers]
      refine runsTo_of_answer hwindow hq (by decide) fun l1 b1 hl1 => ⟨_, step_skipsSend hdrain e, ?_⟩
      refine runsTo_of_answer hwindow hl1 (by decide) fun l2 b2 _ => ?_
      obtain ⟨t, hend, ht⟩ := step_ends hidle hdrain (records_pendAfter_of_failure (.failure e 1) r2 3)
      exact ⟨t, hend, t, rfl, ht⟩

end Sys2Proof.Machine
end

section
/-! PROOFS. The two resets (70_reset_and_hazards): the values after POR (R191), RST as one step (R192), the transmission that
drains after it (R193), and that no frame but the encoder's is sent (R197). -/

namespace Sys2Proof.Machine

section rst
/-! RST alone (R192, R193). -/

/-- The turn of the platform is RST (R190). -/
theorem step_of_rst {s : State} {sch : List Turn} (hturn : s.schedule = .rst :: sch) :
    step s = .next (blockReset (setSchedule sch s)) := by
  rw [step, hturn]
  rfl

/-- DRAIN after RST, by TXSTATE: kept while idle (R192), 1 while a transmission runs (R193). -/
theorem drain_or_busy (s : State) : (s.drain || s.busy) = if s.txState = .idle then s.drain else true := by
  split
  next hidle => rw [busy_eq_false.mpr hidle, Bool.or_false]
  next hbusy => rw [busy_eq_true.mpr hbusy, Bool.or_true]

/-- A second RST repeats the first's effect: BUSY, the one thing RST reads beside DRAIN, is unchanged by it. -/
theorem blockReset_blockReset (s : State) : blockReset (blockReset s) = blockReset s := by
  have hdrain : (s.drain || s.busy || s.busy) = (s.drain || s.busy) := by rw [Bool.or_assoc, Bool.or_self]
  exact congrArg (fun d => { blockReset s with drain := d }) hdrain

end rst

section drain
/-! The drain of a transmission that RST met (R193). -/

/-- The block of `s` while the transmission that RST met there drains: at sequencer state `x`, after the log entries `es`,
with the answers `as` and the turns `sch` to follow. -/
def State.draining (s : State) (x : TxState) (es : List LogEntry) (as : List Response) (sch : List Turn) : State :=
  { State.reset with
    carrierOn := s.carrierOn
    drain := true
    txState := x
    callLog := s.callLog ++ es
    host := s.host
    answers := as
    schedule := sch
    busLog := s.busLog }

/-- The block of `s` once that transmission has drained, the answer to carrier-off having been `r`. -/
def State.drained (s : State) (r : Response) (es : List LogEntry) (as : List Response) (sch : List Turn) : State :=
  { State.reset with
    carrierOn := if r = .ok then false else s.carrierOn
    callLog := s.callLog ++ es
    host := s.host
    answers := as
    schedule := sch
    busLog := s.busLog }

/-- Nothing is recorded while DRAIN = 1 (43_transmit R147). -/
theorem pendAfter_of_drain {s : State} (hdrain : s.drain = true) (r : Response) (k : BitVec 2) :
    s.pendAfter r k = s.pend := by
  cases r with
  | ok => rfl
  | err e => exact if_neg (by simp [hdrain])

variable {s : State} {x : TxState} {es : List LogEntry} {as : List Response} {sch : List Turn}

/-- RST in a busy state starts the drain. -/
theorem step_startsDrain (hbusy : s.txState ≠ .idle) (hturn : s.schedule = .rst :: sch) :
    step s = .next (s.draining s.txState [] s.answers sch) := by
  have hdrain : (s.drain || s.busy) = true := by rw [drain_or_busy, if_neg hbusy]
  rw [step_of_rst hturn, State.draining, List.append_nil, ← hdrain]
  rfl

/-- An answer consumed while the block drains, and the carrier-off call behind it. -/
theorem draining_goesOn (s : State) (x : TxState) (es es' : List LogEntry) (as as' : List Response)
    (sch sch' : List Turn) :
    { s.draining x es as sch with
      schedule := sch'
      answers := as'
      pend := none
      txState := .waitCarrierOff
      callLog := (s.draining x es as sch).callLog ++ es' } = s.draining .waitCarrierOff (es ++ es') as' sch' :=
  congrArg (fun log => { s.draining .waitCarrierOff es as' sch' with callLog := log }) (List.append_assoc s.callLog es es')

/-- While draining, every answer to carrier-on or to the pulse train goes straight to carrier-off, and records nothing. -/
theorem step_drainsOn (hx : x = .waitCarrierOn ∨ x = .waitSend) (r : Response) :
    step (s.draining x es (r :: as) (.transmitter :: sch)) =
      .next (s.draining .waitCarrierOff (es ++ [.answer r, .call (.setCarrier 0 0)]) as sch) := by
  have hpend (k : BitVec 2) : (s.draining x es (r :: as) (.transmitter :: sch)).pendAfter r k = none :=
    pendAfter_of_drain rfl r k
  rw [← draining_goesOn s x es _ (r :: as) as (.transmitter :: sch) sch]
  obtain hon | hsend := hx
  · obtain ⟨-, hskips⟩ := carrierOnAnswered (s.draining x es (r :: as) (.transmitter :: sch)) r as sch hon ⟨rfl, rfl⟩
    rw [hskips (.inr rfl), hpend]
  · rw [sendAnswered (s.draining x es (r :: as) (.transmitter :: sch)) r as sch hsend ⟨rfl, rfl⟩, hpend]

/-- While draining, the answer to carrier-off ends the transmission and reports nothing: ERR and HWERR stay as RST left them
(43_transmit R146). -/
theorem step_endsDrain (r : Response) :
    step (s.draining .waitCarrierOff es (r :: as) (.transmitter :: sch)) =
      .next (s.drained r (es ++ [.answer r]) as sch) := by
  obtain ⟨t, hstep, ht, hcarrier, hreport, -⟩ :=
    carrierOffAnswered (s.draining .waitCarrierOff es (r :: as) (.transmitter :: sch)) r as sch rfl ⟨rfl, rfl⟩
  obtain ⟨herr, hhwErr⟩ := hreport rfl
  rw [hcarrier, herr, hhwErr] at ht
  rw [hstep, ht, State.drained, ← List.append_assoc]
  rfl

end drain

/-- Settles O52: `step_keeps_frames`, by the five effects of a step. -/
theorem onlyEncoderFramesSent : Obligations.OnlyEncoderFramesSent := fun _ _ => step_keeps_frames

/-- Settles O48: RST starts the drain, an answer to carrier-on or to the pulse train goes on to carrier-off, and the answer to
carrier-off ends it. -/
theorem resetDrainsTransmission : Obligations.ResetDrainsTransmission := by
  refine ⟨?carrierOffOut, ?earlier, fun s _ => blockReset_blockReset s⟩
  case carrierOffOut =>
    intro s r as sch htx hturns hanswers
    have hstart := step_startsDrain (by simp [htx]) hturns
    rw [htx, hanswers] at hstart
    rw [run_succ_of_next hstart]
    exact run_succ_of_next (step_endsDrain r) 0
  case earlier =>
    intro s r r' as sch htx hturns hanswers
    have hbusy : s.txState ≠ .idle := by rcases htx with h | h <;> simp [h]
    have hstart := step_startsDrain hbusy hturns
    rw [hanswers] at hstart
    rw [run_succ_of_next hstart]
    exact (run_succ_of_next (step_drainsOn htx r) 1).trans (run_succ_of_next (step_endsDrain r') 0)

/-- Settles O1: STATUS and CARRIER are words computed from fields and constants, every other element is a field of the POR
state. -/
theorem resetValues : Obligations.ResetValues := by
  have hstatus : readReg .status State.reset = 0 := by decide
  obtain ⟨hcarrier, -⟩ := carrierWord_fields
  exact ⟨rfl, hstatus, fun k => Vector.getElem_replicate k.isLt, BitVec.zero_and, rfl, rfl, BitVec.zero_and,
    BitVec.zero_and, hcarrier, rfl, rfl, rfl, rfl, rfl, rfl, rfl, rfl, rfl⟩

/-- Settles O47: the turn is RST, and DRAIN is the one field whose value depends on TXSTATE. -/
theorem blockResetStep : Obligations.BlockResetStep := by
  intro s sch hturn
  rw [step_of_rst hturn, ← drain_or_busy]
  rfl

end Sys2Proof.Machine
end
